-- ==== Sys2Proof/Word.lean ====
section
/-!
DEFINITION. The word types of the KD7220: a byte on the link or in map memory, and part time.
Quantities (powers, speeds, energies, distances, counts) are natural or integer numbers, as the manual computes them
(00 section 5); only what the manual treats as a word that wraps is a bit vector.
-/
namespace Sys2Proof

/-- A byte on the link or in map memory. -/
abbrev Byte := BitVec 8

/-- Part time in ms, 32 bits, wrapping (R151). -/
abbrev PartTime := BitVec 32

end Sys2Proof
end

