-- ==== Sys2Proof/Syntax.lean ====
section
/-!
DEFINITION. The commands of the KD7220: one constructor of `Instr` per row of spec/opcode_table.json, with what each takes
from outside the part. A host request takes no operand: MDC takes the oldest frame of the intake queue (R156) and reads the
request's fields from its payload.
-/
namespace Sys2Proof

/-- The strap pins, or their latched levels (Table 0-3). -/
structure Straps where
  /-- RATE1:0; 3 is AUTO. -/
  rate : BitVec 2
  /-- MW1:0; 3 is no map memory fitted. -/
  mw : BitVec 2
  /-- CALSKIP; true is 'do not read the calibration image'. -/
  calskip : Bool
deriving DecidableEq, Repr

/-- A block that raises event records (Table 9-8). -/
inductive Block where
  | lnk | mdc | dsp | env | eng | rte | wru
deriving DecidableEq, Repr

/-- What the map memory returns during one transfer or fill attempt, as (address, byte) pairs. An address that is not listed
reads 0xFF, the level of the pulled-up lines (R52). -/
abbrev MapData := List Host.Cell

/-- The commands, in the order of spec/opcode_table.json. -/
inductive Instr where
  /-- POWER_ON (R150), with the strap pins at the end of the internal power-on reset. -/
  | powerOn (straps : Straps)
  /-- RESETN (R150): one pulse, with the strap pins at its rising edge. -/
  | resetn (straps : Straps)
  /-- IMAGE_READ_END (R153), with the data the map memory returned. -/
  | imageReadEnd (image : MapData)
  /-- HEAT_INIT (R47). -/
  | heatInit
  /-- WRU_LOADING_GRADE (R141). -/
  | wruLoadingGrade
  /-- DEMAND (R3). -/
  | demand
  /-- DEMAND_TIMER_EXPIRY (R10). -/
  | demandTimerExpiry
  /-- HEAT_UPDATE (R45). -/
  | heatUpdate
  /-- RTE_RESULT (R109). -/
  | rteResult
  /-- ENG_RESULT_EVALUATION (R78). -/
  | engResultEvaluation
  /-- CRANK_TIMER_EXPIRY (R89). -/
  | crankTimerExpiry
  /-- PAUSE_TIMER_EXPIRY (R90). -/
  | pauseTimerExpiry
  /-- WARM_TIMER_EXPIRY (R92). -/
  | warmTimerExpiry
  /-- STOP_HOLD_EXPIRY (R96). -/
  | stopHoldExpiry
  /-- COOLDOWN_TIMER_EXPIRY (R97). -/
  | cooldownTimerExpiry
  /-- WRU_RESULT (R130). -/
  | wruResult
  /-- ENGINE_INCREMENT (R132). -/
  | engineIncrement
  /-- KM_DISTANCE (R145). -/
  | kmDistance
  /-- LAMP_TIMER_EXPIRY (R144). -/
  | lampTimerExpiry
  /-- FILL_SUCCESS (R66), with the data of the attempt. -/
  | fillSuccess (cells : MapData)
  /-- CHECK_FAILURE (R68), with the data of the attempt. -/
  | checkFailure (cells : MapData)
  /-- START (R157). -/
  | start
  /-- HALT (R158). -/
  | halt
  /-- RESTART (R161). -/
  | restart
  /-- FAULT_CLEAR (R91). -/
  | faultClear
  /-- CAL_WRITE (R159). -/
  | calWrite
  /-- CAL_READ (R160). -/
  | calRead
  /-- ROUTE_LOAD (R105). -/
  | routeLoad
  /-- ROUTE_ARM (R107). -/
  | routeArm
  /-- ROUTE_DEPART (R118). -/
  | routeDepart
  /-- ROUTE_SYNC (R119). -/
  | routeSync
  /-- ROUTE_CLEAR (R122). -/
  | routeClear
  /-- MAP_FLUSH (R71). -/
  | mapFlush
  /-- WEAR_SEED (R137). -/
  | wearSeed
  /-- WEAR_SERVICE (R138). -/
  | wearService
  /-- QUERY_STATUS (R177). -/
  | queryStatus
  /-- QUERY_WEAR_A (R149). -/
  | queryWearA
  /-- QUERY_WEAR_B (R149). -/
  | queryWearB
  /-- QUERY_PREDICT (R148). -/
  | queryPredict
  /-- QUERY_ROUTE (R128). -/
  | queryRoute
  /-- QUERY_STARTS_A (R103). -/
  | queryStartsA
  /-- QUERY_STARTS_B (R103). -/
  | queryStartsB
  /-- QUERY_MAP (R61). -/
  | queryMap
  /-- UNKNOWN_TYPE (R173). -/
  | unknownType
  /-- FRAME_RECEIVED (R167): the receipt of a frame's last CRC byte. -/
  | frameReceived (last : Byte)
  /-- GAP_TIMER_EXPIRY (R168). -/
  | gapTimerExpiry
  /-- FRAMING_FAULT (R165): a low stop bit, LRX having risen after `low` REFCLK cycles. -/
  | framingFault (low : Nat)
  /-- BREAK (R165): a low stop bit, LRX still low after `low` REFCLK cycles. -/
  | lineBreak (low : Nat)
  /-- BREAK_WAIT_END (R164): LRX low for `low` REFCLK cycles in rate detection. -/
  | breakWaitEnd (low : Nat)
  /-- MEASURE_START (R164). -/
  | measureStart
  /-- MEASUREMENT_END (R164): the fifth rising edge, at measurement count `n`. -/
  | measurementEnd (n : Nat)
  /-- STAGE_ANSWER (R171). -/
  | stageAnswer
  /-- STAGE_NOTICE (R182). -/
  | stageNotice
  /-- TRANSMIT_END (R171). -/
  | transmitEnd
  /-- EVENT_RAISED (R180): NTU takes the oldest waiting record of one block. -/
  | eventRaised (source : Block)
  /-- COALESCING_TIMER_EXPIRY (R181). -/
  | coalescingTimerExpiry
  /-- CHARACTER_RECEIVED (R167). -/
  | characterReceived (byte : Byte)
  /-- MEASURE_FIRST_RISING_EDGE (R164). -/
  | measureFirstRisingEdge
  /-- MEASUREMENT_COUNT_OVERFLOW (R164). -/
  | measurementCountOverflow
  /-- QUERY_UNKNOWN_TOPIC (R175). -/
  | queryUnknownTopic
deriving DecidableEq, Repr

end Sys2Proof
end

