-- ==== Sys2Proof/Decode.lean ====
section
/-!
DEFINITION. The decoder the host asks for. spec/opcode_table.json gives none of its 60 rows a bit pattern (every `fields` is
empty), so no word spells a command. The bytes that do spell host requests are the frames of Table 8-5, which the link and
MDC read (Machine/Link.lean, Machine/Operands.lean).
-/
namespace Sys2Proof

/-- The command a word spells by the table's bits: none, since no row gives bits. -/
def decodeTableWord (_nbits _w : Nat) : Option Instr := none

end Sys2Proof
end

