-- ==== Sys2Proof/Config.lean ====
section
/-!
DEFINITION. What is fixed for the machine: the capacities of its queues and lists, and the strap levels of `State.reset`.
Two results are left open by the spec, and are free values: opaque constants of which nothing can be proved.
-/
namespace Sys2Proof.Config

/-- Frames the intake queue holds (R169). -/
abbrev intakeDepth : Nat := 4
/-- Answers the reply queue holds (R170). -/
abbrev replyDepth : Nat := 4
/-- Records NTU's event queue holds (R180). -/
abbrev eventDepth : Nat := 16
/-- Entries the start list holds (R81). -/
abbrev startListDepth : Nat := 12
/-- Entries a km ring holds (R146). -/
abbrev ringDepth : Nat := 16
/-- The largest value of a wear counter (R134). -/
abbrev counterMax : Nat := 4294967295

/-- Free value: SoC_target where the range [soc_lo, soc_hi] it is clamped to is empty (R126). Its operands are the value to be
clamped, soc_lo and soc_hi. DESIGN CHOICE (log entry 31), safe: the spec states no result there. -/
opaque emptyRangeTarget (value : Int) (lo hi : Nat) : Nat

/-- Free value: the time in ms since the start of an engine that catches when every entry of the start list has aged out (R88, R90).
Its operand is part time. DESIGN CHOICE (log entry 35), safe: the spec gives no newest entry to count from. -/
opaque sinceStart (partTime : Nat) : Nat

/-- DESIGN CHOICE (log entry 1), unsafe: the strap levels that `State.reset` has latched. The spec leaves the pins to the
board; zeros are RATE1:0 = 00, MW1:0 = 00, CALSKIP = 0. -/
def resetStraps : Straps := ⟨0, 0, false⟩

end Sys2Proof.Config
end

