-- ==== Sys2Proof/Machine/Calibration.lean ====
section
/-!
DEFINITION. The calibration set (Table 7-1), the parameter table (Table 7-4) with its ranges and defaults, and one named
reader per parameter.
-/
namespace Sys2Proof.Machine

/-- The calibration set: 128 slots (Table 7-1). A slot whose id is not in Table 7-4 is never read or written. -/
structure Cal where
  slots : Vector Int 128
deriving DecidableEq, Repr

/-- The ids 0..56 of Table 7-4, each with its range and default. -/
def calScalarRows : List (Nat × Int × Int × Int) :=
  [(0, 1, 500, 20), (1, 1, 500, 20), (2, 0, 32767, 2500), (3, 0, 32767, 533), (4, 0, 32767, 2000),
   (5, 0, 32767, 640), (6, 0, 1200, 30), (7, 0, 32767, 960), (8, 0, 32767, 150), (9, 0, 1200, 100),
   (10, 0, 1000, 50), (11, 0, 32767, 1600), (12, 1, 32767, 100), (13, 0, 32767, 300), (14, 20, 1000, 100),
   (16, 0, 32767, 1000), (17, 0, 32767, 500), (18, 0, 256, 230), (19, 0, 256, 192), (20, 5000, 500000, 60000),
   (24, 0, 1, 1), (25, 0, 32767, 1500), (26, 0, 32767, 50), (27, 100, 200000, 20000), (28, 2, 3, 2),
   (29, 0, 100, 60), (30, 0, 100, 40), (31, 0, 100, 0), (32, 0, 5000, 300), (33, 0, 5000, 300),
   (34, 0, 10000, 2000), (35, 500, 10000, 3000), (36, 1000, 60000, 5000), (37, 1000, 600000, 20000),
   (38, 0, 3600000, 60000), (39, 1000, 600000, 10000), (40, 1000, 600000, 15000), (41, 10, 120, 60),
   (42, 1, 12, 8), (43, 0, 65534, 800), (44, 0, 65534, 300), (48, 0, 10000, 5500), (49, 0, 10000, 3000),
   (50, 0, 10000, 8000), (51, 1, 8, 8), (56, 0, 50, 10)]

/-- The row of an id in Table 7-4: its range and its default; none for an unknown id. Ids 64..88 are e_rate (15 + 5g at
grade g = id − 76) and ids 96..119 the wear thresholds. -/
def calRow (id : Nat) : Option (Int × Int × Int) :=
  if 64 ≤ id ∧ id ≤ 88 then some (-500, 500, 15 + 5 * ((id : Int) - 76))
  else if 96 ≤ id ∧ id ≤ 119 then some (0, 4294967295, 0)
  else (calScalarRows.find? fun r => r.1 == id).map fun r => r.2

/-- Whether an id is in Table 7-4. -/
def calKnown (id : Nat) : Bool := (calRow id).isSome

/-- The ids whose values are signed (R152, R159). -/
def calSigned (id : Nat) : Bool := decide (64 ≤ id ∧ id ≤ 88)

/-- A value held to [lo, hi] (00 section 5.3). -/
def clampInt (lo hi v : Int) : Int := max lo (min v hi)

/-- A value clamped to its id's range; an unknown id has no range (R154, R159). -/
def calClamp (id : Nat) (v : Int) : Int :=
  match calRow id with
  | some (lo, hi, _) => clampInt lo hi v
  | none => v

/-- The default of an id; slots outside Table 7-4 hold nothing, written as 0 (R150, Table 7-4). -/
def calDefault (id : Nat) : Int :=
  match calRow id with
  | some (_, _, d) => d
  | none => 0

/-- The defaults of Table 7-4. -/
def Cal.defaults : Cal := ⟨⟨⟨(List.range 128).map calDefault⟩, by simp⟩⟩

/-- The value a slot holds. -/
def Cal.get (c : Cal) (id : Nat) : Int := c.slots[id]?.getD 0

/-- The value a slot holds, for the unsigned ids. -/
def Cal.nat (c : Cal) (id : Nat) : Nat := (c.get id).toNat

/-- A value stored in a slot. -/
def Cal.set (c : Cal) (id : Nat) (v : Int) : Cal := { c with slots := c.slots.setIfInBounds id v }

/-! The parameters of Table 7-4 by name. -/
def Cal.accelDb (c : Cal) : Nat := c.nat 0
def Cal.brakeDb (c : Cal) : Nat := c.nat 1
def Cal.motPmax (c : Cal) : Nat := c.nat 2
def Cal.motSlope (c : Cal) : Nat := c.nat 3
def Cal.regenPmax (c : Cal) : Nat := c.nat 4
def Cal.regenSlope (c : Cal) : Nat := c.nat 5
def Cal.vRegenMin (c : Cal) : Nat := c.nat 6
def Cal.brakeSlope (c : Cal) : Nat := c.nat 7
def Cal.coastP (c : Cal) : Nat := c.nat 8
def Cal.vCoastMin (c : Cal) : Nat := c.nat 9
def Cal.kSoc (c : Cal) : Nat := c.nat 10
def Cal.genPmax (c : Cal) : Nat := c.nat 11
def Cal.genSlewUp (c : Cal) : Nat := c.nat 12
def Cal.pWarm (c : Cal) : Nat := c.nat 13
def Cal.demandTimeout (c : Cal) : Nat := c.nat 14
def Cal.fbDis (c : Cal) : Nat := c.nat 16
def Cal.fbChg (c : Cal) : Nat := c.nat 17
def Cal.derateSvc (c : Cal) : Nat := c.nat 18
def Cal.derateLim (c : Cal) : Nat := c.nat 19
def Cal.packWh (c : Cal) : Nat := c.nat 20
def Cal.resFitted (c : Cal) : Nat := c.nat 24
def Cal.resPmax (c : Cal) : Nat := c.nat 25
def Cal.resCool (c : Cal) : Nat := c.nat 26
def Cal.resCapKj (c : Cal) : Nat := c.nat 27
def Cal.axleCount (c : Cal) : Nat := c.nat 28
def Cal.bias1 (c : Cal) : Nat := c.nat 29
def Cal.bias2 (c : Cal) : Nat := c.nat 30
def Cal.bias3 (c : Cal) : Nat := c.nat 31
def Cal.hystOn (c : Cal) : Nat := c.nat 32
def Cal.hystOff (c : Cal) : Nat := c.nat 33
def Cal.socHard (c : Cal) : Nat := c.nat 34
def Cal.crankTimeout (c : Cal) : Nat := c.nat 35
def Cal.crankPause (c : Cal) : Nat := c.nat 36
def Cal.warmTime (c : Cal) : Nat := c.nat 37
def Cal.minRun (c : Cal) : Nat := c.nat 38
def Cal.stopHoldMs (c : Cal) : Nat := c.nat 39
def Cal.cooldownMs (c : Cal) : Nat := c.nat 40
def Cal.startWindow (c : Cal) : Nat := c.nat 41
def Cal.startBudget (c : Cal) : Nat := c.nat 42
def Cal.minRunDist (c : Cal) : Nat := c.nat 43
def Cal.prestopDist (c : Cal) : Nat := c.nat 44
def Cal.socBase (c : Cal) : Nat := c.nat 48
def Cal.socLo (c : Cal) : Nat := c.nat 49
def Cal.socHi (c : Cal) : Nat := c.nat 50
def Cal.lookaheadN (c : Cal) : Nat := c.nat 51
def Cal.noticeDelay (c : Cal) : Nat := c.nat 56

/-- e_rate at a grade: the parameter with identifier 76 + g (05 section 5.9). -/
def Cal.eRate (c : Cal) (grade : Int) : Int := c.get (76 + grade).toNat

/-- The threshold of counter `c`, level `l` (0 ADVISORY, 1 SERVICE, 2 LIMIT), at id 96 + 3c + l (06 section 6.1). -/
def Cal.threshold (cal : Cal) (c l : Nat) : Nat := cal.nat (96 + 3 * c + l)

/-- H_cap in 0.1 J (R32). -/
def Cal.heatCap (c : Cal) : Nat := c.resCapKj * 10000
/-- H_hot, the derate threshold (R32). -/
def Cal.heatHot (c : Cal) : Nat := c.resCapKj * 8000
/-- H_cool, the recovery threshold (R32). -/
def Cal.heatCool (c : Cal) : Nat := c.resCapKj * 6000

/-- The START checks of R157 in order; the detail of the first that fails, or none. Check 6 goes through the counters in id
order and finds the first threshold below an earlier nonzero one of its counter. -/
def Cal.firstFailure (c : Cal) : Option Nat :=
  if c.axleCount = 2 ∧ c.bias3 ≠ 0 then some 31
  else if c.bias1 + c.bias2 + (if c.axleCount = 3 then c.bias3 else 0) ≠ 100 then some 29
  else if ¬ c.socHard < c.socLo then some 34
  else if ¬ c.socLo ≤ c.socBase then some 49
  else if ¬ c.socBase ≤ c.socHi then some 48
  else match (List.range 8).findSome? (thresholdFailure c) with
    | some id => some id
    | none => if ¬ c.derateLim ≤ c.derateSvc then some 19 else none
where
  /-- The id of a counter's first nonzero threshold that is below an earlier nonzero one (R157 check 6). -/
  thresholdFailure (c : Cal) (k : Nat) : Option Nat :=
    let adv := c.threshold k 0
    let svc := c.threshold k 1
    let lim := c.threshold k 2
    if svc ≠ 0 ∧ svc < adv then some (96 + 3 * k + 1)
    else if lim ≠ 0 ∧ (lim < adv ∨ lim < svc) then some (96 + 3 * k + 2)
    else none

end Sys2Proof.Machine
end

