-- ==== Sys2Proof/Machine/State.lean ====
section
/-!
DEFINITION. The state of the KD7220, block by block, as plain data; the fault and refusal types; and the state after reset.
INVENTORY.md lists each field with the rule that names it.
-/
namespace Sys2Proof.Machine

/-! ## Codes of the manual's finite sets -/

/-- Operating state (Table 7-1). -/
inductive OpState where
  | loading | config | active
deriving DecidableEq, Repr

/-- Permit state (Table 1-4). -/
inductive Permit where
  | off | waitRelease | on
deriving DecidableEq, Repr

/-- Why the permit last entered WAIT_RELEASE (Table 1-1). -/
inductive ReleaseCause where
  | start | timeout
deriving DecidableEq, Repr

/-- Dispatch mode (R14, R176). -/
inductive Mode where
  | notActive | motoring | coasting | braking
deriving DecidableEq, Repr

/-- Engine state (Table 4-2). -/
inductive EngState where
  | stopped | cranking | pause | warmup | running | cooldown | lockout
deriving DecidableEq, Repr

/-- Start kind (Table 4-4). -/
inductive StartKind where
  | normal | forced | forcedOver | retry
deriving DecidableEq, Repr

/-- ENGINE_STOP cause (Table 4-5). -/
inductive StopCause where
  | cooldownEnd | quietZone | haltHot | halted | crankAbandoned | engineOff | faultCleared
deriving DecidableEq, Repr

/-- Zone of a segment (Table 5-3). -/
inductive Zone where
  | open_ | quiet | charge
deriving DecidableEq, Repr

/-- Kind of a segment (Table 5-3). -/
inductive SegKind where
  | run | hold
deriving DecidableEq, Repr

/-- Direction of travel (Table 5-1). -/
inductive Dir where
  | forward | reverse
deriving DecidableEq, Repr

/-- End action of a plan (Table 5-4). -/
inductive EndAction where
  | stop | turn | wrap
deriving DecidableEq, Repr

/-- Cursor state (Table 5-5). -/
inductive Cursor where
  | idle | running | holding | done
deriving DecidableEq, Repr

/-- Wear level (Table 6-2). -/
inductive Level where
  | none | advisory | service | limit
deriving DecidableEq, Repr

/-- Lamp pattern (Table 6-5). -/
inductive LampPattern where
  | off | steady | flash
deriving DecidableEq, Repr

/-- Lamp phase (Table 6-3). -/
inductive LampPhase where
  | lit | dark
deriving DecidableEq, Repr

/-- Map port state (R51). -/
inductive PortState where
  | idle | imageRead | fill
deriving DecidableEq, Repr

/-- Cache entry state (Table 3-6). -/
inductive EntryState where
  | empty | filling | valid | defective
deriving DecidableEq, Repr

/-- Link state (Table 8-1). -/
inductive LinkState where
  | rateUnknown | ready
deriving DecidableEq, Repr

/-- Detection phase of a rate measurement (R164). -/
inductive DetPhase where
  | waitBreak | waitStart | measure
deriving DecidableEq, Repr

/-- REPLY status (R174). -/
inductive Status where
  | done | refusedState | badValue | badLength | unknownType | badCal
deriving DecidableEq, Repr

/-- Event kinds, in code order (Table 9-8). -/
inductive EventKind where
  | demandTimeout | permitRestored | engineStart | engineRunning | engineStop | crankFailed | engineStall
  | engineLockout | budgetExhausted | quietBreach | segmentEnter | routeHold | routeTurn | routeWrap | routeDone
  | trimRejected | mapFault | resistorHot | resistorCool | wearLevel | stateChange | calDefaulted | calClamped
  | linkRateSet
deriving DecidableEq, Repr

/-! ## Records -/

/-- The dispatch flags (Table 1-12). -/
structure DispatchFlags where
  tractionLimited : Bool
  regenLimited : Bool
  auxOverload : Bool
  envelopeHeld : Bool
  envelopeFallback : Bool
  pedalConflict : Bool
  regenFaded : Bool
  resistorDerated : Bool
  permitWait : Bool
  quietZone : Bool
deriving DecidableEq, Repr

/-- The power shares of a dispatch, 0.1 kW, with the three axle friction values. -/
structure Shares where
  mot : Int
  gen : Int
  batt : Int
  res : Int
  fric : Int
  axle1 : Int
  axle2 : Int
  axle3 : Int
deriving DecidableEq, Repr

/-- The dispatch result record (Table 1-13). -/
structure ResultRecord where
  mode : Mode
  v : Nat
  dt : Nat
  soc : Nat
  eRun : Bool
  shares : Shares
  flags : DispatchFlags
  w : Nat
deriving DecidableEq, Repr

/-- The content of a DISPATCH, without its link flags (R24, Table 9-6). -/
structure DispatchMsg where
  mode : Mode
  flags : DispatchFlags
  permit : Permit
  engineRun : Bool
  shares : Shares
  disEff : Nat
  chgEff : Nat
  w : Nat
  socTarget : Nat
  zone : Zone
  qd : Nat
  dt : Nat
deriving DecidableEq, Repr

/-- An answer in the reply queue, without its link flags (R170, Table 9-6). -/
inductive Answer where
  | dispatch (d : DispatchMsg)
  | reply (echo : Byte) (status : Status) (op : OpState) (detail : Nat)
  | report (echo : Byte) (id : Byte) (content : List Byte)
deriving DecidableEq, Repr

/-- A valid host frame in the intake queue (R167, R169). -/
structure Frame where
  type : Byte
  payload : List Byte
deriving DecidableEq, Repr

/-- The link flags of an outgoing frame (R172). -/
structure LinkFlags where
  dropped : Bool
  checkErr : Bool
  intakeNearFull : Bool
  noticePending : Bool
deriving DecidableEq, Repr

/-- A staged frame (R171): its bytes on the line, the link flags it carries, whether it is the DONE reply of a RESTART, and
whether a discard of either kind has occurred since it was staged (R172). -/
structure Staged where
  bytes : List Byte
  flags : LinkFlags
  restartReply : Bool
  newDropped : Bool
  newCheckErr : Bool
deriving DecidableEq, Repr

/-- The receiver (Table 8-1): HUNT, or a frame being assembled with the bytes received so far, lead byte first. -/
inductive Receiver where
  | hunt
  | assembling (bytes : List Byte)
deriving DecidableEq, Repr

/-- An event record (R179). -/
structure EventRec where
  kind : EventKind
  a : Nat
  b : Nat
  time : PartTime
deriving DecidableEq, Repr

/-- A map key (R55). -/
structure Key where
  i : Nat
  j : Nat
deriving DecidableEq, Repr

/-- Map-level values: discharge limit, charge limit, stress weight (03). -/
structure MapValues where
  dis : Nat
  chg : Nat
  stress : Nat
deriving DecidableEq, Repr

/-- A map cache entry (Table 3-2). The cell values are in fill order and are empty unless the entry is VALID. -/
structure Entry where
  state : EntryState
  key : Option Key
  cells : List MapValues
  attempts : Nat
  discard : Bool
deriving DecidableEq, Repr

/-- A start-list entry (04 section 4.3). -/
structure StartEntry where
  time : PartTime
  kind : StartKind
deriving DecidableEq, Repr

/-- A segment record (Table 5-3). -/
structure Segment where
  kind : SegKind
  zone : Zone
  len : Nat
  grade : Int
  floor : Nat
deriving DecidableEq, Repr

/-- A plan record (Table 5-4). -/
structure Plan where
  first : Nat
  last : Nat
  start : Nat
  dir : Dir
  endAction : EndAction
  wrap : Nat
  laps : Nat
deriving DecidableEq, Repr

/-- A lookahead result (05 section 5.9); the quiet distance is in mm, none for none ahead. -/
structure Lookahead where
  socTarget : Nat
  qd : Option Nat
  r : Nat
  d : Nat
  floorQ : Nat
deriving DecidableEq, Repr

/-- A wear counter record without its km tally and ring (Table 6-2). -/
structure Counter where
  value : Nat
  residue : Nat
  saturated : Bool
  level : Level
deriving DecidableEq, Repr

/-! ## Blocks -/

/-- Link Controller (Table 8-1). -/
structure Lnk where
  state : LinkState
  divisor : Nat
  phase : DetPhase
  /-- MEASURE has seen its first rising edge (R164 step 3); DESIGN CHOICE (log entry 17), safe. -/
  counting : Bool
  measCount : Nat
  overflow : Bool
  receiver : Receiver
  /-- After a break at a fixed rate, the receiver waits for LRX to rise (R165); DESIGN CHOICE (log entry 16). -/
  awaitRise : Bool
  /-- REFCLK cycles left of the 5 ms; none is stopped. -/
  gapTimer : Option Nat
  intake : List Frame
  replies : List Answer
  transmitting : Option Staged
  /-- The divisor at which the transmitting frame is sent, fixed as its transmission begins (R171: a frame that a break overtakes
  finishes at the old divisor); nothing reads it without such a frame (log entry 33). -/
  txDivisor : Nat
  waiting : Option Staged
  restartHold : Bool
  dropped : Bool
  checkErr : Bool
deriving DecidableEq, Repr

/-- Mode Controller (Table 7-1). -/
structure Mdc where
  op : OpState
  cal : Cal
  straps : Straps
  partTime : PartTime
  restartPending : Bool
deriving DecidableEq, Repr

/-- Dispatch Unit (Tables 1-1 and 2-3). -/
structure Dsp where
  permit : Permit
  /-- The TPERMIT pin, high is true (R6). -/
  tpermit : Bool
  cause : ReleaseCause
  lastDemand : Option PartTime
  demandTimer : Option PartTime
  genPrev : Int
  record : Option ResultRecord
  heat : Nat
  hotMark : Bool
  /-- H has a value in use (R47): false from power-on or RESETN to the end of LOADING; log entry 2. -/
  heatSet : Bool
deriving DecidableEq, Repr

/-- Envelope Unit (Table 3-1). -/
structure Env where
  port : PortState
  entries : Vector Entry 8
  /-- Entry numbers, most recent first: an entry's rank is its place here (R61). -/
  order : List Nat
  pendingKey : Option Key
  last : Option MapValues
  /-- The present attempt of a fill follows a cell read at once, so MCS stays high for two beats before its first read (R52, R68,
  R69); log entry 34. -/
  afterRead : Bool
deriving DecidableEq, Repr

/-- Engine Scheduler (Table 4-1). -/
structure Eng where
  state : EngState
  attempts : Nat
  forced : Bool
  runStart : Option PartTime
  stateTimer : Option PartTime
  stopHold : Option PartTime
  starts : List StartEntry
  budgetMark : Bool
  breachMark : Bool
  /-- SoC of the most recent result ENG took, which QUIET_BREACH reports (R87). DESIGN CHOICE (log entry 14), safe: 0
  until a result has been taken, when no rule reads it. -/
  lastSoc : Nat
deriving DecidableEq, Repr

/-- Route Unit (Table 5-1). -/
structure Rte where
  table : Vector (Option Segment) 64
  plan : Option Plan
  cursor : Cursor
  index : Nat
  dir : Dir
  laps : Nat
  remaining : Nat
  raw : Nat
  carry : Nat
  trim : Nat
  /-- The lookahead result; none stands for the IDLE values of R123. -/
  look : Option Lookahead
deriving DecidableEq, Repr

/-- Wear Unit (Tables 6-2 and 6-3). -/
structure Wru where
  counters : Vector Counter 8
  tally : Vector Nat 4
  ring : Vector (List Nat) 4
  seeded : Bool
  kmAcc : Nat
  pattern : LampPattern
  phase : LampPhase
  lampTimer : Option PartTime
  /-- The WLAMP pin, high is true (R143). -/
  wlamp : Bool
deriving DecidableEq, Repr

/-- Notice Unit (Table 9-9). -/
structure Ntu where
  queue : List EventRec
  lost : Bool
  timer : Option PartTime
  due : Bool
deriving DecidableEq, Repr

/-- What one block has sent and another has not yet taken: the spec makes each taking a separate event (R26, R83, R109, R155,
R179). Each list is oldest first. DEDUCED (log entry 4), safe. -/
structure Mail where
  heatIn : List ResultRecord
  rteIn : List ResultRecord
  engIn : List ResultRecord
  wruIn : List ResultRecord
  kmIn : List Nat
  /-- STARTS and HOTSTOP increments: counter id and count. -/
  incIn : List (Nat × Nat)
  raised : List (Block × EventRec)
  loadEndDsp : Bool
  loadEndWru : Bool
deriving DecidableEq, Repr

/-- The state of the part, and the queue of commands that wait. -/
structure State where
  lnk : Lnk
  mdc : Mdc
  dsp : Dsp
  env : Env
  eng : Eng
  rte : Rte
  wru : Wru
  ntu : Ntu
  mail : Mail
  /-- The commands that wait, oldest first (the model's own field; DESIGN CHOICE, log entry 23, safe). -/
  pending : List Instr
deriving DecidableEq, Repr

/-- Faults. There is none: the spec gives the part no state in which it stops, and no command of the model faults
(DEDUCED, log entry 24, safe). -/
inductive Fault where
deriving DecidableEq, Repr

/-- Refusals. -/
inductive Refusal where
  /-- A command without a meaning, raised by `exec` only; safe. No arm of `exec` raises it. -/
  | notModelled (mnemonic : String)
deriving DecidableEq, Repr

/-! ## Reset values -/

/-- Divisor after a power-on or RESETN (Table 8-3, Table 0-3). -/
def Lnk.resetDivisor (rate : BitVec 2) : Nat :=
  if rate = 1 then 1 else if rate = 2 then 0 else 9

/-- LNK after a power-on or RESETN (Table 8-3). No frame is being transmitted; DESIGN CHOICE (log entry 33), safe: txDivisor is the
divisor. -/
def Lnk.reset (straps : Straps) : Lnk :=
  { state := if straps.rate = 3 then .rateUnknown else .ready
    divisor := Lnk.resetDivisor straps.rate
    phase := .waitBreak, counting := false, measCount := 0, overflow := false
    receiver := .hunt, awaitRise := false, gapTimer := none
    intake := [], replies := [], transmitting := none, txDivisor := Lnk.resetDivisor straps.rate, waiting := none
    restartHold := false, dropped := false, checkErr := false }

/-- DSP after a power-on or RESETN (Table 1-2). H and the hot mark have no value in use until LOADING ends (R47); DESIGN
CHOICE (log entry 2), safe: 0 and clear, which no rule reads. -/
def Dsp.reset : Dsp :=
  { permit := .off, tpermit := false, cause := .start, lastDemand := none, demandTimer := none
    genPrev := 0, record := none, heat := 0, hotMark := false, heatSet := false }

/-- An EMPTY cache entry as every reset leaves it (R72). -/
def Entry.empty : Entry := { state := .empty, key := none, cells := [], attempts := 0, discard := false }

/-- ENV after each reset, before the calibration read (R72). -/
def Env.reset : Env :=
  { port := .idle, entries := Vector.replicate 8 Entry.empty, order := [0, 1, 2, 3, 4, 5, 6, 7]
    pendingKey := none, last := none, afterRead := false }

/-- ENG after each reset (Table 4-3). -/
def Eng.reset : Eng :=
  { state := .stopped, attempts := 0, forced := false, runStart := none, stateTimer := none, stopHold := none
    starts := [], budgetMark := false, breachMark := false, lastSoc := 0 }

/-- RTE after a power-on or RESETN (Table 5-2). -/
def Rte.reset : Rte :=
  { table := Vector.replicate 64 none, plan := none, cursor := .idle, index := 0, dir := .forward, laps := 0
    remaining := 0, raw := 0, carry := 0, trim := 4096, look := none }

/-- A counter after a power-on or RESETN (Table 6-4). -/
def Counter.reset : Counter := { value := 0, residue := 0, saturated := false, level := .none }

/-- WRU after a power-on or RESETN (Table 6-4). -/
def Wru.reset : Wru :=
  { counters := Vector.replicate 8 Counter.reset, tally := Vector.replicate 4 0, ring := Vector.replicate 4 []
    seeded := false, kmAcc := 0, pattern := .off, phase := .dark, lampTimer := none, wlamp := false }

/-- NTU after each reset (R183). -/
def Ntu.reset : Ntu := { queue := [], lost := false, timer := none, due := false }

/-- Nothing in flight between the blocks. -/
def Mail.reset : Mail :=
  { heatIn := [], rteIn := [], engIn := [], wruIn := [], kmIn := [], incIn := [], raised := []
    loadEndDsp := false, loadEndWru := false }

/-- MDC right after a power-on or RESETN (R150). -/
def Mdc.reset (straps : Straps) : Mdc :=
  { op := .loading, cal := Cal.defaults, straps := straps, partTime := 0, restartPending := false }

/-- The machine right after reset: a power-on with the straps of `Config.resetStraps`, which start the read of the
calibration image (R150, R153), and no command waiting. -/
def State.reset : State :=
  { lnk := Lnk.reset Config.resetStraps
    mdc := Mdc.reset Config.resetStraps
    dsp := Dsp.reset
    env := { Env.reset with port := .imageRead }
    eng := Eng.reset
    rte := Rte.reset
    wru := Wru.reset
    ntu := Ntu.reset
    mail := Mail.reset
    pending := [] }

end Sys2Proof.Machine
end

