-- ==== Sys2Proof/Machine/Clock.lean ====
section
/-!
DEFINITION. One millisecond of the part's clock, which passes at a step on an empty queue of commands.
-/
namespace Sys2Proof.Machine

/-- One millisecond, 18,432 REFCLK cycles (R151): part time counts on, and a running gap timer, which counts REFCLK cycles
(R162), comes that much nearer its end. -/
def tick (s : State) : State :=
  { s with
    mdc := { s.mdc with partTime := s.mdc.partTime + 1 }
    lnk := { s.lnk with gapTimer := s.lnk.gapTimer.map fun left => left - 18432 } }

end Sys2Proof.Machine
end

