-- ==== Sys2Proof/Machine/Ops.lean ====
section
/-!
DEFINITION. The operations that every family shares: part time and timers, byte order and the check of Table 8-5, raising an
event, answering a request, and MDC's taking of a frame.
-/
namespace Sys2Proof.Machine

/-- The outcome of a command. -/
abbrev Out := Host.Outcome State Fault Refusal

/-! ## Block updates -/

def State.setLnk (s : State) (x : Lnk) : State := { s with lnk := x }
def State.setMdc (s : State) (x : Mdc) : State := { s with mdc := x }
def State.setDsp (s : State) (x : Dsp) : State := { s with dsp := x }
def State.setEnv (s : State) (x : Env) : State := { s with env := x }
def State.setEng (s : State) (x : Eng) : State := { s with eng := x }
def State.setRte (s : State) (x : Rte) : State := { s with rte := x }
def State.setWru (s : State) (x : Wru) : State := { s with wru := x }
def State.setNtu (s : State) (x : Ntu) : State := { s with ntu := x }
def State.setMail (s : State) (x : Mail) : State := { s with mail := x }

/-- The calibration set in force. -/
def State.cal (s : State) : Cal := s.mdc.cal

/-- Part time now. -/
def State.now (s : State) : PartTime := s.mdc.partTime

/-! ## Part time (R151, 00 section 5.4) -/

/-- Milliseconds from `t` to `now`, as a modular difference. -/
def elapsed (now t : PartTime) : Nat := (now - t).toNat

/-- The part time `ms` milliseconds after `now`. -/
def after (now : PartTime) (ms : Nat) : PartTime := now + BitVec.ofNat 32 ms

/-- `now` has reached `t`. DEDUCED (log entry 6), safe: a modular difference below half the range counts as 'reached'; no
timer runs for longer than an hour. -/
def reached (now t : PartTime) : Bool := decide (elapsed now t < 2147483648)

/-- A timer runs and has reached its expiry time, so that its expiry can occur (R101). -/
def expired (now : PartTime) (timer : Option PartTime) : Bool :=
  match timer with
  | none => false
  | some t => reached now t

/-! ## Bytes (00 section 5.1) -/

/-- The byte of a small number. -/
def byte (n : Nat) : Byte := BitVec.ofNat 8 n

/-- Two bytes, big-endian, of an unsigned value. -/
def be16 (n : Nat) : List Byte := [byte (n / 256), byte n]

/-- Four bytes, big-endian, of an unsigned value. -/
def be32 (n : Nat) : List Byte := [byte (n / 16777216), byte (n / 65536), byte (n / 256), byte n]

/-- Two bytes, big-endian, of a signed value in two's complement. -/
def be16s (v : Int) : List Byte := be16 (v % 65536).toNat

/-- Four bytes, big-endian, of a signed value in two's complement. -/
def be32s (v : Int) : List Byte := be32 (v % 4294967296).toNat

/-- The byte at an offset; 0 past the end. -/
def byteAt (p : List Byte) (k : Nat) : Nat := (p.getD k 0).toNat

/-- The big-endian 16-bit value at an offset. -/
def u16At (p : List Byte) (k : Nat) : Nat := byteAt p k * 256 + byteAt p (k + 1)

/-- The big-endian 32-bit value at an offset. -/
def u32At (p : List Byte) (k : Nat) : Nat := u16At p k * 65536 + u16At p (k + 2)

/-- A 16-bit value read as two's complement. -/
def signed16 (n : Nat) : Int := if n < 32768 then (n : Int) else (n : Int) - 65536

/-- A 32-bit value read as two's complement. -/
def signed32 (n : Nat) : Int := if n < 2147483648 then (n : Int) else (n : Int) - 4294967296

/-- An 8-bit value read as two's complement. -/
def signed8 (n : Nat) : Int := if n < 128 then (n : Int) else (n : Int) - 256

/-! ## CRC-16 (R152, R166) -/

/-- One bit of the CRC: polynomial x^16 + x^12 + x^5 + 1. -/
def crcBit (c : BitVec 16) : BitVec 16 := if c.msb then (c <<< 1) ^^^ 0x1021#16 else c <<< 1

/-- One byte of the CRC, most significant bit first. -/
def crcByte (c : BitVec 16) (b : Byte) : BitVec 16 :=
  crcBit (crcBit (crcBit (crcBit (crcBit (crcBit (crcBit (crcBit (c ^^^ (b.setWidth 16 <<< 8)))))))))

/-- The CRC of a list of bytes: initial value all ones, no final inversion. -/
def crc16 (bytes : List Byte) : BitVec 16 := bytes.foldl crcByte 0xFFFF#16

/-! ## Events and answers -/

/-- A block raises an event: its record, stamped with part time, waits to be taken by NTU (R179). -/
def raise (src : Block) (kind : EventKind) (a b : Nat) (s : State) : State :=
  s.setMail { s.mail with raised := s.mail.raised ++ [(src, { kind, a, b, time := s.now })] }

/-- An answer joins the reply queue as its newest (R170). -/
def answer (a : Answer) (s : State) : State := s.setLnk { s.lnk with replies := s.lnk.replies ++ [a] }

/-- A REPLY with MDC's operating state at this moment (R174). -/
def reply (echo : Byte) (status : Status) (detail : Nat) (s : State) : State :=
  answer (.reply echo status s.mdc.op detail) s

/-! ## Taking a frame (R156, R173) -/

/-- MDC may take a frame: CONFIG or ACTIVE, no RESTART pending, a free slot in the reply queue (R156). -/
def mayTake (s : State) : Bool :=
  decide (s.mdc.op ≠ .loading) && !s.mdc.restartPending && decide (s.lnk.replies.length < Config.replyDepth)

/-- MDC takes the oldest frame of the intake queue when it may take one, the frame is one that `sel` selects, and what `ready`
asks has happened (log entry 22); the frame leaves the queue and is served. Otherwise nothing happens: DESIGN CHOICE (log
entry 3). -/
def takeFrame (sel : Frame → Bool) (ready : Frame → State → Bool) (serve : Frame → State → State) (s : State) : State :=
  match s.lnk.intake with
  | [] => s
  | f :: rest =>
    if mayTake s && sel f && ready f s then serve f (s.setLnk { s.lnk with intake := rest }) else s

/-- The payload length Table 9-1 gives for a frame's type and, for a ROUTE_LOAD, its count; none for a type not in the
table and for a ROUTE_LOAD shorter than 2 bytes. -/
def requestLength (f : Frame) : Option Nat :=
  match f.type.toNat with
  | 0x10 => some 19
  | 0x20 | 0x21 | 0x22 | 0x42 | 0x44 | 0x50 => some 0
  | 0x23 | 0x31 | 0x61 | 0x70 => some 1
  | 0x30 => some 5
  | 0x40 => if f.payload.length < 2 then none else some (2 + 6 * byteAt f.payload 1)
  | 0x41 => some 7
  | 0x43 => some 2
  | 0x60 => some 32
  | _ => none

/-- The type is in Table 9-1. -/
def knownType (t : Byte) : Bool :=
  match t.toNat with
  | 0x10 | 0x20 | 0x21 | 0x22 | 0x23 | 0x30 | 0x31 | 0x40 | 0x41 | 0x42 | 0x43 | 0x44 | 0x50 | 0x60 | 0x61 | 0x70 => true
  | _ => false

/-- The payload has the length of Table 9-1. -/
def lengthOk (f : Frame) : Bool := requestLength f == some f.payload.length

/-- MDC answers a frame of wrong payload length itself (R173); a frame of right length is served. -/
def serveChecked (serve : Frame → State → State) (f : Frame) (s : State) : State :=
  if lengthOk f then serve f s else reply f.type .badLength f.payload.length s

/-- What `ready` asks of a frame, asked of one of right length only: one of wrong length reaches no other block (R173). -/
def readyChecked (ready : Frame → State → Bool) (f : Frame) (s : State) : Bool := !lengthOk f || ready f s

/-- The taking of a request of one type (R156, R173). `ready` says that the blocks that take the request have taken what a rule
puts ahead of it (R45, R48, R98, R104, R155): DEDUCED (log entry 22), safe. -/
def takeRequest (type : Byte) (ready : Frame → State → Bool) (serve : Frame → State → State) (s : State) : State :=
  takeFrame (fun f => f.type == type) (readyChecked ready) (serveChecked serve) s

/-- Nothing further is asked before the frame is taken. -/
def noWait (_f : Frame) (_s : State) : Bool := true

/-- WRU has taken the end of LOADING, as it does before any request of its own (R155). -/
def wruLoaded (_f : Frame) (s : State) : Bool := !s.mail.loadEndWru

end Sys2Proof.Machine
end

