-- ==== Sys2Proof/Machine/Operands.lean ====
section
/-!
DEFINITION. The operand forms: the fields of each request payload (Tables 9-4 and 9-5) with the treatment of Table 1-3, and
the codes the manual gives its named values (R174, R176, R178, Table 9-8).
-/
namespace Sys2Proof.Machine

/-! ## Codes -/

def OpState.code : OpState → Nat
  | .loading => 0 | .config => 1 | .active => 2
def Permit.code : Permit → Nat
  | .off => 0 | .waitRelease => 1 | .on => 2
/-- R9: the argument a of PERMIT_RESTORED. -/
def ReleaseCause.code : ReleaseCause → Nat
  | .start => 0 | .timeout => 1
def Mode.code : Mode → Nat
  | .notActive => 0 | .motoring => 1 | .coasting => 2 | .braking => 3
def EngState.code : EngState → Nat
  | .stopped => 0 | .cranking => 1 | .pause => 2 | .warmup => 3 | .running => 4 | .cooldown => 5 | .lockout => 6
def StartKind.code : StartKind → Nat
  | .normal => 0 | .forced => 1 | .forcedOver => 2 | .retry => 3
def StopCause.code : StopCause → Nat
  | .cooldownEnd => 0 | .quietZone => 1 | .haltHot => 2 | .halted => 3 | .crankAbandoned => 4 | .engineOff => 5
  | .faultCleared => 6
def Zone.code : Zone → Nat
  | .open_ => 0 | .quiet => 1 | .charge => 2
def SegKind.code : SegKind → Nat
  | .run => 0 | .hold => 1
def Dir.code : Dir → Nat
  | .forward => 0 | .reverse => 1
def EndAction.code : EndAction → Nat
  | .stop => 0 | .turn => 1 | .wrap => 2
def Cursor.code : Cursor → Nat
  | .idle => 0 | .running => 1 | .holding => 2 | .done => 3
def Level.code : Level → Nat
  | .none => 0 | .advisory => 1 | .service => 2 | .limit => 3
def LampPattern.code : LampPattern → Nat
  | .off => 0 | .steady => 1 | .flash => 2
def PortState.code : PortState → Nat
  | .idle => 0 | .imageRead => 1 | .fill => 2
def EntryState.code : EntryState → Nat
  | .empty => 0 | .filling => 1 | .valid => 2 | .defective => 3
def LinkState.code : LinkState → Nat
  | .rateUnknown => 0 | .ready => 1
def Status.code : Status → Nat
  | .done => 0 | .refusedState => 1 | .badValue => 2 | .badLength => 3 | .unknownType => 4 | .badCal => 5
/-- The kind codes of Table 9-8. -/
def EventKind.code : EventKind → Nat
  | .demandTimeout => 1 | .permitRestored => 2 | .engineStart => 3 | .engineRunning => 4 | .engineStop => 5
  | .crankFailed => 6 | .engineStall => 7 | .engineLockout => 8 | .budgetExhausted => 9 | .quietBreach => 10
  | .segmentEnter => 11 | .routeHold => 12 | .routeTurn => 13 | .routeWrap => 14 | .routeDone => 15
  | .trimRejected => 16 | .mapFault => 17 | .resistorHot => 18 | .resistorCool => 19 | .wearLevel => 20
  | .stateChange => 21 | .calDefaulted => 22 | .calClamped => 23 | .linkRateSet => 24
/-- A mark in a report: 0 clear, 1 set (R178). -/
def bit (b : Bool) : Nat := if b then 1 else 0

/-! ## DEMAND (Tables 1-3 and 9-4) -/

/-- The fields of a DEMAND, clamped as Table 1-3 gives (R2). -/
structure DemandFields where
  a : Nat
  b : Nat
  v : Nat
  pAux : Nat
  soc : Nat
  temp : Int
  disRep : Nat
  chgRep : Nat
  eRun : Bool
  genAvail : Nat
deriving DecidableEq, Repr

/-- The clamped fields of a DEMAND payload of 19 bytes (R2). -/
def demandFields (p : List Byte) : DemandFields :=
  { a := min 1000 (u16At p 0)
    b := min 1000 (u16At p 2)
    v := min 1200 (u16At p 4)
    pAux := min 32767 (u16At p 6)
    soc := min 10000 (u16At p 8)
    temp := signed16 (u16At p 10)
    disRep := min 32767 (u16At p 12)
    chgRep := min 32767 (u16At p 14)
    eRun := decide (byteAt p 16 ≠ 0)
    genAvail := min 32767 (u16At p 17) }

/-! ## CAL_WRITE (Table 9-4) -/

/-- The value of a CAL_WRITE, or of an image slot, for an id: signed for ids 64..88 (R152, R159). -/
def calValue (id raw : Nat) : Int := if calSigned id then signed32 raw else (raw : Int)

/-! ## ROUTE_LOAD (Tables 5-3 and 9-5) -/

/-- The zone of a zone code. -/
def zoneOfCode : Nat → Option Zone
  | 0 => some .open_
  | 1 => some .quiet
  | 2 => some .charge
  | _ => none

/-- The segment record at an offset of a ROUTE_LOAD payload; none where a field fails the check of R105. A HOLD record is
stored with len 0 (R106). -/
def segmentAt (p : List Byte) (k : Nat) : Option Segment :=
  let kind := byteAt p k / 16
  let len := u16At p (k + 1)
  let grade := signed8 (byteAt p (k + 3))
  let floor := u16At p (k + 4)
  match zoneOfCode (byteAt p k % 16) with
  | none => none
  | some zone =>
    if -12 ≤ grade ∧ grade ≤ 12 ∧ floor ≤ 10000 then
      if kind = 0 then (if 1 ≤ len ∧ len ≤ 4095 then some { kind := .run, zone, len, grade, floor } else none)
      else if kind = 1 then some { kind := .hold, zone, len := 0, grade, floor }
      else none
    else none

/-- The records of a ROUTE_LOAD of `count` segments, in slot order. -/
def segmentsOf (p : List Byte) (count : Nat) : List (Option Segment) :=
  (List.range count).map fun k => segmentAt p (2 + 6 * k)

/-! ## ROUTE_ARM (Table 9-4) -/

/-- The direction of a direction code. -/
def dirOfCode : Nat → Option Dir
  | 0 => some .forward
  | 1 => some .reverse
  | _ => none

/-- The end action of an end action code. -/
def endActionOfCode : Nat → Option EndAction
  | 0 => some .stop
  | 1 => some .turn
  | 2 => some .wrap
  | _ => none

/-- The plan of a ROUTE_ARM payload of 7 bytes, or none where a field fails step 2 of R107. Unless the end action is WRAP the
wrap field is recorded as first. -/
def planOf (p : List Byte) : Option Plan :=
  let first := byteAt p 0
  let last := byteAt p 1
  let start := byteAt p 2
  let wrap := byteAt p 5
  match dirOfCode (byteAt p 3), endActionOfCode (byteAt p 4) with
  | some dir, some endAction =>
    if first ≤ last ∧ last ≤ 63 ∧ first ≤ start ∧ start ≤ last then
      if endAction = .wrap then
        (if first ≤ wrap ∧ wrap ≤ last then some { first, last, start, dir, endAction, wrap, laps := byteAt p 6 }
         else none)
      else some { first, last, start, dir, endAction, wrap := first, laps := byteAt p 6 }
    else none
  | _, _ => none

/-! ## WEAR_SEED (Table 9-4) -/

/-- The seed of counter `c`. -/
def seedAt (p : List Byte) (c : Nat) : Nat := u32At p (4 * c)

/-! ## QUERY (Table 9-4) -/

/-- The frame is a QUERY of this topic, told by its first payload byte. -/
def isTopic (topic : Nat) (f : Frame) : Bool := f.type == 0x70 && !f.payload.isEmpty && byteAt f.payload 0 == topic

/-- The frame is a QUERY with no topic byte or with a topic byte that is not a code of Table 9-4 (R175). DESIGN CHOICE (log
entry 10), safe: a QUERY without a topic byte is taken under this row and answered BAD_LENGTH. -/
def isUnknownTopic (f : Frame) : Bool := f.type == 0x70 && (f.payload.isEmpty || decide (7 < byteAt f.payload 0))

end Sys2Proof.Machine
end

