-- ==== Sys2Proof/Machine/Flags.lean ====
section
/-!
DEFINITION. The flag words and the frames that carry them: the dispatch flags (R176), the link flags (R172), and the payload
and line bytes of every frame from the part (Tables 8-5, 9-3 and 9-6).
-/
namespace Sys2Proof.Machine

/-- No dispatch flag set (R23). -/
def DispatchFlags.clear : DispatchFlags :=
  { tractionLimited := false, regenLimited := false, auxOverload := false, envelopeHeld := false
    envelopeFallback := false, pedalConflict := false, regenFaded := false, resistorDerated := false
    permitWait := false, quietZone := false }

/-- The 16-bit word of the dispatch flags (R176). -/
def DispatchFlags.word (f : DispatchFlags) : Nat :=
  bit f.tractionLimited + 2 * bit f.regenLimited + 4 * bit f.auxOverload + 8 * bit f.envelopeHeld
    + 16 * bit f.envelopeFallback + 32 * bit f.pedalConflict + 64 * bit f.regenFaded + 128 * bit f.resistorDerated
    + 256 * bit f.permitWait + 512 * bit f.quietZone

/-- The link-flags byte (Table 9-3). -/
def LinkFlags.code (f : LinkFlags) : Nat :=
  bit f.dropped + 2 * bit f.checkErr + 4 * bit f.intakeNearFull + 8 * bit f.noticePending

/-- The payload of a DISPATCH after its link-flags byte (Table 9-6). -/
def DispatchMsg.body (d : DispatchMsg) : List Byte :=
  [byte d.mode.code] ++ be16 d.flags.word ++ [byte d.permit.code, byte (bit d.engineRun)]
    ++ be16s d.shares.mot ++ be16s d.shares.gen ++ be16s d.shares.batt ++ be16s d.shares.res ++ be16s d.shares.fric
    ++ be16s d.shares.axle1 ++ be16s d.shares.axle2 ++ be16s d.shares.axle3
    ++ be16 d.disEff ++ be16 d.chgEff ++ be16 d.w ++ be16 d.socTarget ++ [byte d.zone.code] ++ be16 d.qd
    ++ [byte d.dt]

/-- The type byte of an answer (Table 9-6). -/
def Answer.type : Answer → Byte
  | .dispatch _ => 0x90
  | .reply _ _ _ _ => 0xA0
  | .report _ _ _ => 0xB0

/-- The payload of an answer after its link-flags byte (Table 9-6). -/
def Answer.body : Answer → List Byte
  | .dispatch d => d.body
  | .reply echo status op detail => [echo, byte status.code, byte op.code] ++ be16 detail
  | .report echo id content => [echo, id] ++ content

/-- The eight bytes of an event record (R179). -/
def EventRec.bytes (e : EventRec) : List Byte :=
  [byte e.kind.code, byte e.a] ++ be16 e.b ++ be32 e.time.toNat

/-- The payload of a NOTICE after its link-flags byte (Table 9-6). -/
def noticeBody (lost : Bool) (records : List EventRec) : List Byte :=
  [byte (bit lost), byte records.length] ++ records.flatMap EventRec.bytes

/-- A frame on the line: lead byte, type, length, payload, CRC-16 over type, length and payload (Table 8-5, R166). -/
def frameBytes (type : Byte) (payload : List Byte) : List Byte :=
  let covered := [type, byte payload.length] ++ payload
  [0xB5] ++ covered ++ be16 (crc16 covered).toNat

/-- The link flags of a frame staged now (R172). `noticeLeft` says whether NTU's event queue is not empty once the records
the frame carries have left it. -/
def linkFlagsNow (s : State) (noticeLeft : Bool) : LinkFlags :=
  { dropped := s.lnk.dropped, checkErr := s.lnk.checkErr
    intakeNearFull := decide (3 ≤ s.lnk.intake.length), noticePending := noticeLeft }

end Sys2Proof.Machine
end

