-- ==== Sys2Proof/Machine/Envelope.lean ====
section
/-!
DEFINITION. The Envelope Unit (03): the limit map's cells, lookup arithmetic, health derate, the map cache with its recency
order, fills, and MAP_FLUSH.
-/
namespace Sys2Proof.Machine

/-! ## Map memory (R52 to R54) -/

/-- The byte the map memory returns at an address; an address not listed reads all ones, the pulled-up lines (R52;
DEDUCED, log entry 8, safe). -/
def mapByte (m : MapData) (addr : Nat) : Byte :=
  match m.find? fun c => c.1 == addr with
  | some c => c.2
  | none => 0xFF

/-- The big-endian word at an address (R53). -/
def mapWord (m : MapData) (addr : Nat) : Nat := (mapByte m addr).toNat * 256 + (mapByte m (addr + 1)).toNat

/-- The byte address of cell (i, j) of the limit map (R53). -/
def cellAddress (i j : Nat) : Nat := 0x1000 + (i * 11 + j) * 8

/-- The value words of the cell at an address (Table 3-5). -/
def cellValues (m : MapData) (addr : Nat) : MapValues :=
  { dis := mapWord m addr, chg := mapWord m (addr + 2), stress := mapWord m (addr + 4) }

/-- The check of R54: the check word is 65535 minus the sum, modulo 65536, of the three value words. -/
def cellPasses (m : MapData) (addr : Nat) : Bool :=
  let c := cellValues m addr
  mapWord m (addr + 6) == 65535 - (c.dis + c.chg + c.stress) % 65536

/-- The addresses of a tile's cells in fill order (R55, R63). -/
def tileAddresses (k : Key) : List Nat :=
  [cellAddress k.i k.j, cellAddress k.i (k.j + 1), cellAddress (k.i + 1) k.j, cellAddress (k.i + 1) (k.j + 1)]

/-- The position in the fill order of the first cell that fails its check in an attempt; none where all four pass (R66,
R68). -/
def firstBadCell (m : MapData) (k : Key) : Option Nat :=
  (tileAddresses k).findIdx? fun addr => !cellPasses m addr

/-- The cell value sets of an attempt, in fill order (R54, R63). -/
def tileValues (m : MapData) (k : Key) : List MapValues := (tileAddresses k).map (cellValues m)

/-! ## Lookup arithmetic (R55, R56) -/

/-- An axis index and fraction: the last square is used at the upper edge, with the fraction at its full value (R55). -/
def axisSplit (x step lastSquare : Nat) : Nat × Nat :=
  if x / step ≤ lastSquare then (x / step, x % step) else (lastSquare, step)

/-- u of R55: half-degrees above −30 °C, clamped to the axis. -/
def tempAxis (temp : Int) : Nat := (clampInt 0 150 (temp + 60)).toNat

/-- The key of a temperature and a state of charge (R55). -/
def lookupKey (temp : Int) (soc : Nat) : Key :=
  { i := (axisSplit (tempAxis temp) 10 14).1, j := (axisSplit soc 1000 9).1 }

/-- The fractions fi and fj (R55). -/
def lookupFractions (temp : Int) (soc : Nat) : Nat × Nat :=
  ((axisSplit (tempAxis temp) 10 14).2, (axisSplit soc 1000 9).2)

/-- One interpolated value (R56). -/
def interpolate (fi fj c00 c01 c10 c11 : Nat) : Nat :=
  (c00 * (10 - fi) * (1000 - fj) + c10 * fi * (1000 - fj) + c01 * (10 - fi) * fj + c11 * fi * fj) / 10000

/-- The interpolated map-level values of a VALID tile, its cells in fill order (R56, R63). A cell that is not there reads
zeros; a VALID entry has all four. -/
def tileEnvelope (fi fj : Nat) (cells : List MapValues) : MapValues :=
  let cell := fun k => cells.getD k ⟨0, 0, 0⟩
  let at_ := fun (f : MapValues → Nat) => interpolate fi fj (f (cell 0)) (f (cell 1)) (f (cell 2)) (f (cell 3))
  { dis := at_ MapValues.dis, chg := at_ MapValues.chg, stress := at_ MapValues.stress }

/-! ## Cache entries and recency (R61, R62) -/

/-- Entry `n`. -/
def Env.entry (e : Env) (n : Nat) : Entry := e.entries[n]?.getD Entry.empty

/-- Entry `n` replaced. -/
def Env.setEntry (e : Env) (n : Nat) (x : Entry) : Env := { e with entries := e.entries.setIfInBounds n x }

/-- The entry that holds a key, by number. -/
def Env.findKey (e : Env) (k : Key) : Option Nat := e.entries.toList.findIdx? fun x => x.key == some k

/-- The entry that a lookup of a key finds, by number: a FILLING one marked for discard is not found, since a lookup taken after a
MAP_FLUSH misses on every key, and with a discarded fill its key becomes the pending key (R71). DESIGN CHOICE (log entry 30),
unsafe: R60 and R65 give a FILLING entry's own key another outcome; R71, which speaks of this case alone, is followed. -/
def Env.findTile (e : Env) (k : Key) : Option Nat :=
  e.entries.toList.findIdx? fun x => x.key == some k && !(x.state == .filling && x.discard)

/-- The FILLING entry, by number. -/
def Env.fillingEntry (e : Env) : Option Nat := e.entries.toList.findIdx? fun x => x.state == .filling

/-- Entry `n` becomes most recent; the others keep their order (R61). -/
def Env.makeRecent (e : Env) (n : Nat) : Env := { e with order := n :: e.order.erase n }

/-- Entry `n` moves to the least recent end (R61). -/
def Env.makeLast (e : Env) (n : Nat) : Env := { e with order := e.order.erase n ++ [n] }

/-- The rank of entry `n` (R61). -/
def Env.rank (e : Env) (n : Nat) : Nat := e.order.idxOf n

/-- The victim of a fill: the least recent EMPTY entry, otherwise the least recent entry (R62). DESIGN CHOICE (log entry 27),
safe: entry 0 of an empty order, which no state has. -/
def Env.victim (e : Env) : Nat :=
  let oldestFirst := e.order.reverse
  match oldestFirst.find? fun n => (e.entry n).state == .empty with
  | some n => n
  | none => oldestFirst.headD 0

/-- A fill of a key starts (R64), at once after a cell read or not (R52, R69). -/
def Env.startFill (afterRead : Bool) (k : Key) (e : Env) : Env :=
  let n := e.victim
  { (e.setEntry n { state := .filling, key := some k, cells := [], attempts := 0, discard := false }).makeRecent n with
    port := .fill, afterRead }

/-- The end of a fill (R69): the port becomes IDLE and the pending key, if there is one, is cleared and its fill starts
unless an entry already has that key. -/
def Env.endFill (e : Env) : Env :=
  let e := { e with port := .idle, afterRead := false }
  match e.pendingKey with
  | none => e
  | some k =>
    let e := { e with pendingKey := none }
    match e.findKey k with
    | some _ => e
    | none => e.startFill true k

/-- Entry `n` becomes EMPTY at the end of a discarded fill and moves to the least recent end (R66, R68). DEDUCED (log entry
12), unsafe: its discard mark is cleared with the fill that it marked, and its attempt count is kept. -/
def Env.dropEntry (n attempts : Nat) (e : Env) : Env :=
  (e.setEntry n { state := .empty, key := none, cells := [], attempts, discard := false }).makeLast n

/-! ## Lookup (R57, R58, R60, R74) -/

/-- Which envelope flag a lookup gives (R13). -/
inductive EnvFlag where
  | fresh | held | fallback
deriving DecidableEq, Repr

/-- The fallback values (R60). -/
def fallbackValues (c : Cal) : MapValues := { dis := c.fbDis, chg := c.fbChg, stress := 256 }

/-- The last envelope, or the fallback values where there is none (R60). -/
def heldValues (c : Cal) (e : Env) : MapValues × EnvFlag :=
  match e.last with
  | some v => (v, .held)
  | none => (fallbackValues c, .fallback)

/-- The map-level values of a lookup, its flag, and ENV after it (Table 3-7, R71, R74). `noMap` is MW1:0 = 11. While MDC is in
LOADING no lookup is made (R51), so a miss with the port in IMAGE_READ does not occur; it would change nothing (log entry
27). -/
def envLookup (c : Cal) (noMap : Bool) (temp : Int) (soc : Nat) (e : Env) : MapValues × EnvFlag × Env :=
  if noMap then (fallbackValues c, .fallback, e)
  else
    let k := lookupKey temp soc
    let held := heldValues c e
    match e.findTile k with
    | some n =>
      match (e.entry n).state with
      | .valid =>
        let fr := lookupFractions temp soc
        let v := tileEnvelope fr.1 fr.2 (e.entry n).cells
        (v, .fresh, { e.makeRecent n with last := some v })
      | .defective => (fallbackValues c, .fallback, { e.makeRecent n with last := some (fallbackValues c) })
      | .filling | .empty => (held.1, held.2, e.makeRecent n)
    | none =>
      match e.port with
      | .idle => (held.1, held.2, e.startFill false k)
      | .fill => (held.1, held.2, { e with pendingKey := some k })
      | .imageRead => (held.1, held.2, e)

/-- The health factor h (R57). -/
def healthFactor (c : Cal) (seeded : Bool) (battLevel : Level) : Nat :=
  if seeded then
    match battLevel with
    | .none | .advisory => 256
    | .service => c.derateSvc
    | .limit => c.derateLim
  else 256

/-- An effective limit: the lower of the report and the derated map value (R58). -/
def effectiveLimit (rep mapValue h : Nat) : Nat := min rep (mapValue * h / 256)

/-! ## Fill events and MAP_FLUSH (R66 to R71) -/

/-- FILL_SUCCESS at ENV (R66): all four cells of the attempt pass, and the fill ends. -/
def fillSuccess (m : MapData) (s : State) : State :=
  match s.env.port, s.env.fillingEntry with
  | .fill, some n =>
    let x := s.env.entry n
    match x.key with
    | none => s
    | some k =>
      match firstBadCell m k with
      | some _ => s
      | none =>
        if x.discard then s.setEnv (s.env.dropEntry n x.attempts).endFill
        else s.setEnv (s.env.setEntry n { x with state := .valid, cells := tileValues m k }).endFill
  | _, _ => s

/-- CHECK_FAILURE at ENV (R68): a cell of the attempt fails, and the fill retries, is discarded, or leaves the tile DEFECTIVE
with MAP_FAULT. DEDUCED (log entry 11), unsafe: ENV acts on the pending key in the two cases that end the fill, as R69 and R71
say. -/
def checkFailure (m : MapData) (s : State) : State :=
  match s.env.port, s.env.fillingEntry with
  | .fill, some n =>
    let x := s.env.entry n
    match x.key with
    | none => s
    | some k =>
      match firstBadCell m k with
      | none => s
      | some pos =>
        let attempts := x.attempts + 1
        if x.discard then s.setEnv (s.env.dropEntry n attempts).endFill
        else if attempts < 3 then s.setEnv { s.env.setEntry n { x with attempts } with afterRead := true }
        else
          raise .env .mapFault pos (k.i * 256 + k.j)
            (s.setEnv (s.env.setEntry n { x with state := .defective, attempts }).endFill)
  | _, _ => s

/-- An entry that a MAP_FLUSH empties at once (R71). -/
def Entry.flushable (x : Entry) : Bool := x.state == .valid || x.state == .defective

/-- How many entries a MAP_FLUSH empties at once (R71). -/
def Env.flushCount (e : Env) : Nat := e.entries.toList.countP Entry.flushable

/-- MAP_FLUSH at ENV (R71): VALID and DEFECTIVE entries become EMPTY and move behind all others in their order, a FILLING
entry is marked for discard, and the pending key is cleared. What an emptied entry keeps is log entry 12. -/
def Env.flush (e : Env) : Env :=
  { e with
    entries := e.entries.map fun x =>
      if x.flushable then { x with state := .empty, key := none, cells := [], discard := false }
      else if x.state == .filling then { x with discard := true }
      else x
    order := e.order.filter (fun n => !(e.entry n).flushable) ++ e.order.filter (fun n => (e.entry n).flushable)
    pendingKey := none }

/-- FILL_SUCCESS (R66). -/
def execFillSuccess (m : MapData) (s : State) : Out := .next (fillSuccess m s)

/-- CHECK_FAILURE (R68). -/
def execCheckFailure (m : MapData) (s : State) : Out := .next (checkFailure m s)

/-- MAP_FLUSH (R71, R74): answered DONE with the number of entries emptied at once. With no map memory fitted it changes
nothing and the detail is 0. -/
def execMapFlush (s : State) : Out :=
  .next (takeRequest 0x50 noWait serve s)
where
  serve (f : Frame) (s : State) : State :=
    if s.mdc.straps.mw = 3 then reply f.type .done 0 s
    else reply f.type .done s.env.flushCount (s.setEnv s.env.flush)

end Sys2Proof.Machine
end

