-- ==== Sys2Proof/Machine/Shares.lean ====
section
/-!
DEFINITION. The dispatch computation of chapters 1 and 2, as functions of what a dispatch reads at the take: the mode, the
motoring and coasting split, the braking blend, and the dispatch flags.
-/
namespace Sys2Proof.Machine

/-- What the shares of a dispatch are computed from: the clamped DEMAND, the settled permit, and what the neighbouring blocks
offer at the take (R12, R13). -/
structure DispatchInput where
  fields : DemandFields
  permit : Permit
  engine : EngState
  zone : Zone
  socTarget : Nat
  disEff : Nat
  chgEff : Nat
  envFlag : EnvFlag
  resistLevel : Level
  heat : Nat
  genPrev : Int
  cal : Cal
deriving DecidableEq, Repr

/-- What a dispatch decides: mode, shares, flags, and the next P_gen_prev (R22). -/
structure Decision where
  mode : Mode
  shares : Shares
  flags : DispatchFlags
  genPrev : Int
deriving DecidableEq, Repr

/-- The mode (R14). -/
def dispatchMode (c : Cal) (a b : Nat) : Mode :=
  if c.brakeDb ≤ b then .braking else if c.accelDb ≤ a then .motoring else .coasting

/-- P_mot_env (R15). -/
def motorEnvelope (c : Cal) (v : Nat) : Nat := min c.motPmax (v * c.motSlope / 64)

/-- P_regen_env (R16). -/
def regenEnvelope (c : Cal) (v : Nat) : Nat :=
  if c.vRegenMin ≤ v then min c.regenPmax (v * c.regenSlope / 64) else 0

/-- P_trac in MOTORING (R15) and COASTING (R16); it is not formed in BRAKING (R33). -/
def tractionRequest (c : Cal) (mode : Mode) (a v : Nat) : Int :=
  match mode with
  | .motoring => ((a * motorEnvelope c v / 1000 : Nat) : Int)
  | .coasting => if c.vCoastMin ≤ v then -((min c.coastP (regenEnvelope c v) : Nat) : Int) else 0
  | .braking | .notActive => 0

/-- ENG's state permits the generator (Table 4-2, R17). -/
def EngState.generates (e : EngState) : Bool := e == .running || e == .warmup

/-- P_gen_pref (R17). -/
def genPreference (x : DispatchInput) (pTrac : Int) : Int :=
  let batPref := Int.tdiv (((x.fields.soc : Int) - x.socTarget) * x.cal.kSoc) 100
  let pref := max pTrac 0 + x.fields.pAux - batPref
  let capped := clampInt 0 (min x.cal.genPmax x.fields.genAvail : Nat) pref
  if x.engine = .warmup then min capped x.cal.pWarm else capped

/-- P_gen before the clamps: slew-limited upward (R18), 0 where ENG does not permit the generator (R17). -/
def genSetPoint (x : DispatchInput) (pTrac : Int) : Int :=
  if x.engine.generates then min (genPreference x pTrac) (x.genPrev + x.cal.genSlewUp) else 0

/-- The discharge-side clamp on a starting motor power: the motor power after it, and whether it lowered it (R20). -/
def dischargeClamp (dis aux gen mot : Int) : Int × Bool :=
  if dis < mot + aux - gen ∧ 0 < mot then (max 0 (dis + gen - aux), true) else (mot, false)

/-- The charge-side clamp: motor power and generator set-point after it, and whether it limited coasting regeneration
(R21). -/
def chargeClamp (chg aux gen mot : Int) : Int × Int × Bool :=
  if mot + aux - gen < -chg then
    let gen := max 0 (mot + aux + chg)
    if gen = 0 ∧ mot + aux - gen < -chg then (-(min (-mot) (chg + aux)), gen, true) else (mot, gen, false)
  else (mot, gen, false)

/-- The flags a dispatch sets whatever its mode (R11, R12, R13, R23). -/
def commonFlags (x : DispatchInput) : DispatchFlags :=
  { DispatchFlags.clear with
    envelopeHeld := x.envFlag == .held
    envelopeFallback := x.envFlag == .fallback
    permitWait := x.permit != .on
    quietZone := x.zone == .quiet }

/-- The dispatch in MOTORING and COASTING (R15 to R22). -/
def splitDecision (x : DispatchInput) (mode : Mode) : Decision :=
  let aux : Int := x.fields.pAux
  let pTrac := tractionRequest x.cal mode x.fields.a x.fields.v
  let gen := genSetPoint x pTrac
  let mot := if x.permit = .on then pTrac else 0
  let cut := dischargeClamp x.disEff aux gen mot
  let held := chargeClamp x.chgEff aux gen cut.1
  { mode
    shares :=
      { mot := held.1, gen := held.2.1, batt := held.1 + aux - held.2.1, res := 0, fric := 0
        axle1 := 0, axle2 := 0, axle3 := 0 }
    flags :=
      { commonFlags x with
        tractionLimited := cut.2
        regenLimited := held.2.2
        auxOverload := decide ((x.disEff : Int) < cut.1 + aux - gen) }
    genPrev := if x.engine.generates then held.2.1 else 0 }

/-- P_brk_full and P_brk_req (R33). -/
def brakeRequest (c : Cal) (b v : Nat) : Nat := b * min 32767 (v * c.brakeSlope / 64) / 1000

/-- P_regen_cap (R35). -/
def regenCap (c : Cal) (permit : Permit) (v : Nat) : Nat :=
  if permit = .on then regenEnvelope c v else 0

/-- A_res (R37). -/
def resistorAcceptance (c : Cal) (level : Level) (heat : Nat) : Nat :=
  if c.resFitted = 0 ∨ level = .limit then 0
  else if heat ≤ c.heatHot then c.resPmax
  else c.resPmax * 5 * (c.heatCap - heat) / c.heatCap

/-- The friction power divided over the fitted axles (R43). -/
def axleSplit (c : Cal) (fric : Nat) : Int × Int × Int :=
  let one : Int := (fric * c.bias1 / 100 : Nat)
  if c.axleCount = 3 then
    let two : Int := (fric * c.bias2 / 100 : Nat)
    (one, two, fric - one - two)
  else (one, fric - one, 0)

/-- The dispatch in BRAKING (R33 to R43). -/
def blendDecision (x : DispatchInput) : Decision :=
  let aux := x.fields.pAux
  let req := brakeRequest x.cal x.fields.b x.fields.v
  let cap := regenCap x.cal x.permit x.fields.v
  let battAccept := x.chgEff + aux
  let resAccept := resistorAcceptance x.cal x.resistLevel x.heat
  let regen := min req (min cap (battAccept + resAccept))
  let res := regen - battAccept
  let batt : Int := -(regen : Int) + aux + res
  let axles := axleSplit x.cal (req - regen)
  { mode := .braking
    shares :=
      { mot := -(regen : Int), gen := 0, batt, res, fric := (req - regen : Nat)
        axle1 := axles.1, axle2 := axles.2.1, axle3 := axles.2.2 }
    flags :=
      { commonFlags x with
        regenLimited := decide (battAccept + resAccept < req ∧ battAccept + resAccept < cap)
        auxOverload := decide ((x.disEff : Int) < batt)
        pedalConflict := decide (x.cal.accelDb ≤ x.fields.a)
        regenFaded := decide (x.fields.v < x.cal.vRegenMin)
        resistorDerated := decide (x.cal.resFitted = 1 ∧ resAccept < x.cal.resPmax) }
    genPrev := 0 }

/-- The whole computation of stages 5 to 7 of R3. -/
def decideShares (x : DispatchInput) : Decision :=
  match dispatchMode x.cal x.fields.a x.fields.b with
  | .braking => blendDecision x
  | mode => splitDecision x mode

/-- H as a percentage of H_cap (R50). -/
def heatPercent (c : Cal) (heat : Nat) : Nat := heat * 100 / c.heatCap

end Sys2Proof.Machine
end

