-- ==== Sys2Proof/Machine/Route.lean ====
section
/-!
DEFINITION. The Route Unit (05): the segment table, the plan and cursor, odometry, boundaries and end actions, sync and trim,
and the lookahead; with the five ROUTE requests and the taking of a result.
-/
namespace Sys2Proof.Machine

/-- A segment that stands for a slot that is not loaded. DESIGN CHOICE (log entry 20), safe: the plan's range is loaded when
it is armed (R107) and no slot is unloaded while it is driven (R106), so the cursor and the scan never read it. -/
def noSegment : Segment := { kind := .hold, zone := .open_, len := 0, grade := 0, floor := 0 }

/-- The segment record of a slot. -/
def Rte.segment (r : Rte) (k : Nat) : Segment := ((r.table[k]?).getD none).getD noSegment

/-- The slot is loaded. -/
def Rte.loaded (r : Rte) (k : Nat) : Bool := ((r.table[k]?).getD none).isSome

/-- The cursor is RUNNING or HOLDING. -/
def Cursor.inPlan (c : Cursor) : Bool := c == .running || c == .holding

/-- The other direction. -/
def Dir.flip : Dir → Dir
  | .forward => .reverse
  | .reverse => .forward

/-- The next segment in travel order from `k`, or none where it lies beyond the range (R114). -/
def nextIndex (p : Plan) (dir : Dir) (k : Nat) : Option Nat :=
  match dir with
  | .forward => if k < p.last then some (k + 1) else none
  | .reverse => if p.first < k then some (k - 1) else none

/-- The neighbour of the segment just left in the new direction at a TURN: last − 1 after passing beyond last, first + 1 after
passing beyond first, and the same segment when first equals last (R116). `dir` is the direction before the turn. -/
def turnIndex (p : Plan) (dir : Dir) : Nat :=
  if p.first = p.last then p.first
  else match dir with
    | .forward => p.last - 1
    | .reverse => p.first + 1

/-! ## Lookahead (R123 to R127) -/

/-- A segment's grade in a direction of travel (R108). -/
def effectiveGrade (dir : Dir) (g : Int) : Int :=
  match dir with
  | .forward => g
  | .reverse => -g

/-- A scanned segment with its effective grade. -/
structure Scanned where
  seg : Segment
  grade : Int
deriving DecidableEq, Repr

/-- The segments of the scan after the one at `k`, at most `n` of them, following the plan's end action (R124). -/
def scanAfter (r : Rte) (p : Plan) : Nat → Dir → Nat → Nat → List Scanned
  | 0, _, _, _ => []
  | n + 1, dir, laps, k =>
    let take := fun (dir : Dir) (laps k : Nat) =>
      { seg := r.segment k, grade := effectiveGrade dir (r.segment k).grade } :: scanAfter r p n dir laps k
    match nextIndex p dir k with
    | some k' => take dir laps k'
    | none =>
      match p.endAction with
      | .stop => []
      | .turn => take dir.flip laps (turnIndex p dir)
      | .wrap =>
        if p.laps = 0 then take dir laps p.wrap
        else if laps - 1 = 0 then []
        else take dir (laps - 1) p.wrap

/-- The scan: the current segment and up to lookahead_n further ones (R124). -/
def scan (c : Cal) (r : Rte) (p : Plan) : List Scanned :=
  { seg := r.segment r.index, grade := effectiveGrade r.dir (r.segment r.index).grade }
    :: scanAfter r p c.lookaheadN r.dir r.laps r.index

/-- A scanned segment is QUIET. -/
def Scanned.isQuiet (x : Scanned) : Bool := x.seg.zone == .quiet

/-- E_q: the energy of the first run of consecutive QUIET segments (R125). -/
def quietEnergy (c : Cal) (xs : List Scanned) : Int :=
  (((xs.dropWhile fun x => !x.isQuiet).takeWhile Scanned.isQuiet).map
    fun x => (x.seg.len : Int) * max 0 (c.eRate x.grade)).sum

/-- E_d: the energy the whole scan returns (R125). -/
def descentEnergy (c : Cal) (xs : List Scanned) : Int :=
  (xs.map fun x => (x.seg.len : Int) * max 0 (-(c.eRate x.grade))).sum

/-- The quiet reserve R, rounded up (R125). -/
def quietReserve (c : Cal) (xs : List Scanned) : Nat :=
  ((quietEnergy c xs).toNat * 10000 + (c.packWh - 1)) / c.packWh

/-- The descent room D, rounded down (R125). -/
def descentRoom (c : Cal) (xs : List Scanned) : Nat := (descentEnergy c xs).toNat * 10000 / c.packWh

/-- The quiet floor: the floor of the first QUIET segment, or 0 (R125). -/
def quietFloor (xs : List Scanned) : Nat :=
  match xs.find? Scanned.isQuiet with
  | some x => x.seg.floor
  | none => 0

/-- SoC_target from the scan (R126). DESIGN CHOICE (log entry 31), safe: where soc_lo exceeds soc_hi, as a set that START has not
checked can have it, the clamp has no range and the spec gives no value; it is a free value. -/
def scanTarget (c : Cal) (xs : List Scanned) : Nat :=
  match xs.head? with
  | none => c.socBase
  | some s0 =>
    if s0.seg.zone = .charge then c.socHi
    else
      let t1 : Int := (c.socBase : Int) + quietReserve c xs - descentRoom c xs
      let t2 : Int := max t1 (quietFloor xs)
      if c.socLo ≤ c.socHi then (clampInt c.socLo c.socHi t2).toNat else Config.emptyRangeTarget t2 c.socLo c.socHi

/-- The quiet distance in mm from the scan (R127); `remaining` is what is left of s0. -/
def scanQuietDistance (remaining : Nat) (xs : List Scanned) : Option Nat :=
  match xs with
  | [] => none
  | s0 :: rest =>
    if s0.isQuiet then some 0
    else if rest.any Scanned.isQuiet then
      some (remaining + ((rest.takeWhile fun x => !x.isQuiet).map fun x => x.seg.len * 10000).sum)
    else none

/-- The lookahead result recomputed for the cursor as it stands (R123). -/
def lookahead (c : Cal) (r : Rte) (p : Plan) : Lookahead :=
  let xs := scan c r p
  { socTarget := scanTarget c xs
    qd := scanQuietDistance r.remaining xs
    r := quietReserve c xs
    d := descentRoom c xs
    floorQ := quietFloor xs }

/-! ## What RTE offers (R12, R123, R127) -/

/-- The zone offered: that of the current segment while RUNNING or HOLDING, otherwise OPEN (Table 5-5). -/
def Rte.zone (r : Rte) : Zone := if r.cursor.inPlan then (r.segment r.index).zone else .open_

/-- The lookahead result offered: the one held, or the IDLE values with the soc_base the set holds now (R123). -/
def Rte.offered (c : Cal) (r : Rte) : Lookahead :=
  match r.look with
  | some l => l
  | none => { socTarget := c.socBase, qd := none, r := 0, d := 0, floorQ := 0 }

/-- A quiet distance in whole metres, capped at 65534 (R127). -/
def quietMetres (qd : Option Nat) : Option Nat := qd.map fun mm => min 65534 (mm / 1000)

/-- A quiet distance as the link carries it: 65535 for none ahead (R127). -/
def quietField (qd : Option Nat) : Nat := (quietMetres qd).getD 65535

/-! ## Moving the cursor (R108, R112 to R117) -/

/-- Entering segment `k` with an excess to be carried (R108, R112). The lookahead is recomputed from the remaining distance
less the excess (05 section 5.11; log entry 21). -/
def enterSegment (p : Plan) (k excess : Nat) (s : State) : State :=
  let seg := s.rte.segment k
  let moved : Rte :=
    match seg.kind with
    | .run => { s.rte with index := k, cursor := .running, remaining := seg.len * 10000 - excess, raw := 0 }
    | .hold => { s.rte with index := k, cursor := .holding, remaining := 0, raw := 0 }
  let s := s.setRte { moved with look := some (lookahead s.cal moved p) }
  let s := raise .rte .segmentEnter k (seg.zone.code + 256 * seg.kind.code) s
  match seg.kind with
  | .run => s
  | .hold => raise .rte .routeHold k 0 s

/-- The plan ends (R115, R117): DONE, with ROUTE_DONE naming the end action and the segment left. -/
def endPlan (action : EndAction) (laps : Nat) (s : State) : State :=
  raise .rte .routeDone action.code s.rte.index
    (s.setRte { s.rte with cursor := .done, laps, remaining := 0, raw := 0, look := none })

/-- Passing beyond the plan's range (R115 to R117). -/
def applyEndAction (p : Plan) (excess : Nat) (s : State) : State :=
  match p.endAction with
  | .stop => endPlan .stop s.rte.laps s
  | .turn =>
    let dir := s.rte.dir.flip
    let k := turnIndex p s.rte.dir
    enterSegment p k excess (raise .rte .routeTurn dir.code k (s.setRte { s.rte with dir }))
  | .wrap =>
    if p.laps = 0 then enterSegment p p.wrap excess (raise .rte .routeWrap 0 p.wrap s)
    else
      let laps := s.rte.laps - 1
      if laps = 0 then endPlan .wrap 0 s
      else enterSegment p p.wrap excess (raise .rte .routeWrap laps p.wrap (s.setRte { s.rte with laps }))

/-- The next segment in travel order is entered, or the end action applied (R112, R118). -/
def moveOn (p : Plan) (excess : Nat) (s : State) : State :=
  match nextIndex p s.rte.dir s.rte.index with
  | some k => enterSegment p k excess s
  | none => applyEndAction p excess s

/-! ## Results (R109 to R112) -/

/-- n of R109. -/
def odometryNumerator (r : Rte) (v dt : Nat) : Nat := v * dt * r.trim + r.carry

/-- d of R109, in mm. -/
def odometryDistance (r : Rte) (v dt : Nat) : Nat := odometryNumerator r v dt / 147456

/-- A RUNNING cursor takes the distance `d` of a result (R111, R112). -/
def advanceCursor (v dt d : Nat) (s : State) : State :=
  let r := s.rte
  let s := s.setRte
    { r with
      raw := r.raw + v * dt
      remaining := r.remaining - d
      look := r.look.map fun l => { l with qd := l.qd.map fun mm => mm - d } }
  match r.plan with
  | some p => if r.remaining ≤ d then moveOn p (d - r.remaining) s else s
  | none => s

/-- RTE takes a result record (R109, R111). -/
def rteTakes (x : ResultRecord) (s : State) : State :=
  let d := odometryDistance s.rte x.v x.dt
  let s' := (s.setRte { s.rte with carry := odometryNumerator s.rte x.v x.dt % 147456 }).setMail
    { s.mail with kmIn := s.mail.kmIn ++ [d] }
  match s.rte.cursor with
  | .running => advanceCursor x.v x.dt d s'
  | .idle | .holding | .done => s'

/-- RTE takes the oldest record that waits for it. -/
def rteTakesNext (s : State) : State :=
  match s.mail.rteIn with
  | [] => s
  | x :: rest => rteTakes x (s.setMail { s.mail with rteIn := rest })

/-- RTE_RESULT (R109). -/
def execRteResult (s : State) : Out := .next (rteTakesNext s)

/-! ## ROUTE_LOAD (R105, R106) -/

/-- The segment table with records written from a slot upward. -/
def writeSegments (t : Vector (Option Segment) 64) : Nat → List (Option Segment) → Vector (Option Segment) 64
  | _, [] => t
  | k, x :: rest => writeSegments (t.setIfInBounds k x) (k + 1) rest

/-- The first slot of first..first+count−1 within the range of an armed plan, while the cursor is RUNNING or HOLDING (R105
check 3). -/
def armedSlot (r : Rte) (first count : Nat) : Option Nat :=
  match r.plan with
  | some p =>
    if r.cursor.inPlan then
      (List.range count).findSome? fun k =>
        if p.first ≤ first + k ∧ first + k ≤ p.last then some (first + k) else none
    else none
  | none => none

/-- ROUTE_LOAD (R105, R106). -/
def execRouteLoad (s : State) : Out :=
  .next (takeRequest 0x40 noWait serve s)
where
  serve (f : Frame) (s : State) : State :=
    let first := byteAt f.payload 0
    let count := byteAt f.payload 1
    let records := segmentsOf f.payload count
    if count < 1 ∨ 8 < count ∨ 63 < first + count - 1 then reply f.type .badValue 0xFFFF s
    else match records.findIdx? Option.isNone with
      | some k => reply f.type .badValue (first + k) s
      | none =>
        match armedSlot s.rte first count with
        | some k => reply f.type .refusedState k s
        | none => reply f.type .done count (s.setRte { s.rte with table := writeSegments s.rte.table first records })

/-! ## ROUTE_ARM, ROUTE_DEPART, ROUTE_SYNC, ROUTE_CLEAR -/

/-- The lowest unloaded slot of first..last (R107 check 3). -/
def lowestUnloaded (r : Rte) (first last : Nat) : Option Nat :=
  (List.range (last + 1 - first)).findSome? fun k => if r.loaded (first + k) then none else some (first + k)

/-- ROUTE_ARM (R107). -/
def execRouteArm (s : State) : Out :=
  .next (takeRequest 0x41 noWait serve s)
where
  serve (f : Frame) (s : State) : State :=
    if s.rte.cursor.inPlan then reply f.type .refusedState s.rte.cursor.code s
    else match planOf f.payload with
      | none => reply f.type .badValue 0xFFFF s
      | some p =>
        match lowestUnloaded s.rte p.first p.last with
        | some k => reply f.type .badValue k s
        | none =>
          reply f.type .done p.start
            (enterSegment p p.start 0 (s.setRte { s.rte with plan := some p, dir := p.dir, laps := p.laps }))

/-- ROUTE_DEPART (R118). A HOLDING cursor has a plan. -/
def execRouteDepart (s : State) : Out :=
  .next (takeRequest 0x42 noWait serve s)
where
  serve (f : Frame) (s : State) : State :=
    match s.rte.cursor, s.rte.plan with
    | .holding, some p =>
      let t := moveOn p 0 s
      reply f.type .done (if t.rte.cursor = .done then 0xFFFF else t.rte.index) t
    | _, _ => reply f.type .refusedState s.rte.cursor.code s

/-- τ_new of R120, for a raw count above 0. -/
def trimNew (r : Rte) : Nat := (r.segment r.index).len * 10000 * 147456 / r.raw

/-- The trim test of R120: the state after it, and the detail of the answer (0 not attempted, 1 τ changed, 2 rejected). -/
def trimTest (p : Plan) (k : Nat) (flag : Bool) (s : State) : State × Nat :=
  if flag && s.rte.cursor == .running && nextIndex p s.rte.dir s.rte.index == some k then
    if s.rte.raw = 0 then (raise .rte .trimRejected 0 0 s, 2)
    else if trimNew s.rte < 3851 ∨ 4341 < trimNew s.rte then
      (raise .rte .trimRejected 2 (min 65535 (trimNew s.rte)) s, 2)
    else (s.setRte { s.rte with trim := trimNew s.rte }, 1)
  else (s, 0)

/-- ROUTE_SYNC (R119, R120). A RUNNING or HOLDING cursor has a plan. -/
def execRouteSync (s : State) : Out :=
  .next (takeRequest 0x43 noWait serve s)
where
  serve (f : Frame) (s : State) : State :=
    let k := byteAt f.payload 0
    match s.rte.cursor.inPlan, s.rte.plan with
    | true, some p =>
      if k < p.first ∨ p.last < k then reply f.type .badValue 0xFFFF s
      else
        let t := trimTest p k (byteAt f.payload 1 != 0) s
        reply f.type .done t.2 (enterSegment p k 0 t.1)
    | _, _ => reply f.type .refusedState s.rte.cursor.code s

/-- ROUTE_CLEAR (R122). -/
def execRouteClear (s : State) : Out :=
  .next (takeRequest 0x44 noWait serve s)
where
  serve (f : Frame) (s : State) : State :=
    reply f.type .done s.rte.cursor.code
      (s.setRte
        { s.rte with
          cursor := .idle, plan := none, index := 0, dir := .forward, laps := 0, remaining := 0, raw := 0
          look := none })

/-- RTE takes START: the lookahead of a RUNNING or HOLDING cursor is recomputed (R123). -/
def rteStart (s : State) : State :=
  match s.rte.cursor.inPlan, s.rte.plan with
  | true, some p => s.setRte { s.rte with look := some (lookahead s.cal s.rte p) }
  | _, _ => s

end Sys2Proof.Machine
end

