-- ==== Sys2Proof/Machine/Engine.lean ====
section
/-!
DEFINITION. The Engine Scheduler (04): the start list and budget, starts, cranking and lockout, warm-up and stalls, stops and
cooldown; its evaluations for a result, a timer expiry, HALT and FAULT_CLEAR.
-/
namespace Sys2Proof.Machine

/-! ## Readings (R76, R78) -/

/-- The engine request: true is RUN (Table 4-2). -/
def EngState.requestsRun (e : EngState) : Bool :=
  match e with
  | .cranking | .warmup | .running | .cooldown => true
  | .stopped | .pause | .lockout => false

/-- Counter `c`. -/
def Wru.counter (w : Wru) (c : Nat) : Counter := w.counters[c]?.getD Counter.reset

/-- The quiet distance RTE offers, in metres (R127). -/
def State.quietMetres (s : State) : Option Nat := Machine.quietMetres (s.rte.offered s.cal).qd

/-- A quiet distance is a distance below `limit` metres. -/
def quietWithin (qd : Option Nat) (limit : Nat) : Bool :=
  match qd with
  | some m => decide (m < limit)
  | none => false

/-- The zone RTE offers is QUIET. -/
def State.inQuiet (s : State) : Bool := s.rte.zone == .quiet

/-- quiet block (R79). -/
def quietBlock (s : State) : Bool := s.inQuiet || quietWithin s.quietMetres s.cal.minRunDist

/-- prestop (R79). -/
def prestop (s : State) : Bool := quietWithin s.quietMetres s.cal.prestopDist

/-- forced (R79). -/
def forcedCondition (s : State) (x : ResultRecord) : Bool := decide (x.soc < s.cal.socHard)

/-- start want (R79). -/
def startWant (s : State) (x : ResultRecord) : Bool :=
  forcedCondition s x || s.rte.zone == .charge
    || decide ((x.soc : Int) < ((s.rte.offered s.cal).socTarget : Int) - s.cal.hystOn) || x.flags.tractionLimited

/-! ## Start list and budget (R80 to R83) -/

/-- The age of a start-list entry reaches the start window (R80). -/
def StartEntry.aged (c : Cal) (now : PartTime) (e : StartEntry) : Bool :=
  decide (c.startWindow * 60000 ≤ elapsed now e.time)

/-- Pruning (R80). DEDUCED (log entry 13), unsafe: entries are removed from the oldest on, up to the first that has not
aged, since the rule says that the removed entries are always the oldest ones. -/
def prune (s : State) : State :=
  let starts := s.eng.starts.dropWhile (StartEntry.aged s.cal s.now)
  s.setEng { s.eng with starts, budgetMark := s.eng.budgetMark && decide (s.cal.startBudget ≤ starts.length) }

/-- The budget is reached (R80). -/
def budgetReached (s : State) : Bool := decide (s.cal.startBudget ≤ s.eng.starts.length)

/-- The start time of a new entry (R81): part time, or the newest entry's start time plus 1 ms where part time is not later
than that, by modular difference (log entry 13). -/
def newStartTime (now : PartTime) (starts : List StartEntry) : PartTime :=
  match starts.getLast? with
  | none => now
  | some e => if 0 < elapsed now e.time ∧ elapsed now e.time < 2147483648 then now else e.time + 1

/-- The start list with a new entry; a full list loses its oldest entry first (R81). -/
def appendStart (kind : StartKind) (now : PartTime) (starts : List StartEntry) : List StartEntry :=
  (if Config.startListDepth ≤ starts.length then starts.drop 1 else starts)
    ++ [{ time := newStartTime now starts, kind }]

/-- The STARTS increment of a start kind (R83). -/
def startWeight : StartKind → Nat
  | .forcedOver => 3
  | .normal | .forced | .retry => 1

/-- ENG sends WRU an increment of a counter (R83, R84). -/
def sendIncrement (counter n : Nat) (s : State) : State :=
  s.setMail { s.mail with incIn := s.mail.incIn ++ [(counter, n)] }

/-- A start refused by the budget (R82). -/
def refuseByBudget (s : State) : State :=
  if s.eng.budgetMark then s
  else
    let left := match s.eng.starts.head? with
      | some e => (s.cal.startWindow * 60000 - elapsed s.now e.time + 999) / 1000
      | none => 0
    raise .eng .budgetExhausted s.eng.starts.length left (s.setEng { s.eng with budgetMark := true })

/-! ## Transitions -/

/-- QUIET_BREACH and the breach mark, when the mark is clear (R87): `a` is 0 at a start, 1 when kept running. -/
def quietBreach (a : Nat) (s : State) : State :=
  if s.eng.breachMark then s
  else raise .eng .quietBreach a s.eng.lastSoc (s.setEng { s.eng with breachMark := true })

/-- A start (R86, R87). -/
def startEngine (kind : StartKind) (s : State) : State :=
  let starts := appendStart kind s.now s.eng.starts
  let s := s.setEng
    { s.eng with state := .cranking, stateTimer := some (after s.now s.cal.crankTimeout), starts, runStart := none }
  let s := sendIncrement 4 (startWeight kind) s
  let s := raise .eng .engineStart kind.code starts.length s
  if s.inQuiet then quietBreach 0 s else s

/-- Milliseconds since the run-start time (R100). DESIGN CHOICE (log entry 27), safe: 0 where there is none. -/
def runMillis (s : State) : Nat :=
  match s.eng.runStart with
  | some t => elapsed s.now t
  | none => 0

/-- Entry into STOPPED (R100, R87): ENGINE_STOP with its cause, both timers stopped. -/
def stopEngine (cause : StopCause) (s : State) : State :=
  raise .eng .engineStop cause.code (min 65535 (runMillis s / 1000))
    (s.setEng
      { s.eng with state := .stopped, stateTimer := none, stopHold := none, runStart := none, breachMark := false })

/-- A hot stop (R99). -/
def hotStop (cause : StopCause) (s : State) : State := stopEngine cause (sendIncrement 6 1 s)

/-- The engine has caught (R88 step 2, R90): WARMUP and ENGINE_RUNNING. DEDUCED (log entry 13), unsafe: the time since the
newest start is a modular difference. DESIGN CHOICE (log entry 35), safe: with an empty start list, as after a stall of an engine
whose start has aged out, it is a free value. -/
def engineCaught (s : State) : State :=
  let since := match s.eng.starts.getLast? with
    | some e => elapsed s.now e.time
    | none => Config.sinceStart s.now.toNat
  raise .eng .engineRunning s.eng.attempts (min 65535 since)
    (s.setEng
      { s.eng with
        state := .warmup, stateTimer := some (after s.now s.cal.warmTime), runStart := some s.now, forced := false })

/-- What follows a failed crank or a stall whose attempt count is already raised (R89, R93): LOCKOUT at 3, otherwise
PAUSE. `a` is 0 for a crank failure, 1 for a stall. -/
def afterFailure (a : Nat) (s : State) : State :=
  if 3 ≤ s.eng.attempts then
    raise .eng .engineLockout a s.eng.starts.length
      (s.setEng { s.eng with state := .lockout, stateTimer := none, forced := false, breachMark := false })
  else s.setEng { s.eng with state := .pause, stateTimer := some (after s.now s.cal.crankPause) }

/-- A stall (R93); the forced mark is set or cleared by the forced condition of the stalling result. -/
def stall (forced : Bool) (s : State) : State :=
  let attempts := s.eng.attempts + 1
  let run := min 65535 (runMillis s)
  afterFailure 1
    (raise .eng .engineStall attempts run
      (s.setEng { s.eng with stateTimer := none, stopHold := none, runStart := none, attempts, forced }))

/-- Entry into COOLDOWN (R94, R96). -/
def enterCooldown (s : State) : State :=
  s.setEng { s.eng with state := .cooldown, stateTimer := some (after s.now s.cal.cooldownMs), stopHold := none }

/-- Return from COOLDOWN to RUNNING (R97). -/
def resumeRunning (s : State) : State :=
  s.setEng { s.eng with state := .running, stateTimer := none, stopHold := none }

/-- The stop-hold timer stopped (R94, R96). -/
def clearStopHold (s : State) : State := s.setEng { s.eng with stopHold := none }

/-- The forced mark set when the forced condition holds (R88, R90). -/
def markForced (forced : Bool) (s : State) : State := s.setEng { s.eng with forced := s.eng.forced || forced }

/-! ## Evaluation for a result (R78 to R97) -/

/-- A result in STOPPED (R85). -/
def evalStopped (x : ResultRecord) (s : State) : State :=
  if forcedCondition s x then
    startEngine (if budgetReached s then .forcedOver else .forced) (s.setEng { s.eng with forced := true })
  else if startWant s x then
    if quietBlock s then s
    else if budgetReached s then refuseByBudget s
    else startEngine .normal (s.setEng { s.eng with forced := false })
  else s

/-- A result in CRANKING (R88). -/
def evalCranking (x : ResultRecord) (s : State) : State :=
  let s := markForced (forcedCondition s x) s
  if x.eRun then engineCaught s
  else if s.inQuiet then (if s.eng.forced then quietBreach 1 s else stopEngine .crankAbandoned s)
  else s

/-- A result in PAUSE (R90). -/
def evalPause (x : ResultRecord) (s : State) : State :=
  let s := markForced (forcedCondition s x) s
  if x.eRun then engineCaught s else s

/-- A result in WARMUP (R92). -/
def evalWarmup (x : ResultRecord) (s : State) : State :=
  if !x.eRun then stall (forcedCondition s x) s
  else if s.inQuiet then (if forcedCondition s x then quietBreach 1 s else hotStop .quietZone s)
  else s

/-- A stop is eligible (R95). -/
def stopEligible (x : ResultRecord) (s : State) : Bool :=
  decide ((s.rte.offered s.cal).socTarget + s.cal.hystOff < x.soc)
    && !x.flags.tractionLimited && s.rte.zone != .charge && (s.wru.counter 4).level != .limit
    && s.eng.runStart.isSome && decide (s.cal.minRun ≤ runMillis s) && !budgetReached s

/-- A result in RUNNING (R94, R96). -/
def evalRunning (x : ResultRecord) (s : State) : State :=
  let forced := forcedCondition s x
  if !x.eRun then stall forced s
  else if s.inQuiet then (if forced then quietBreach 1 (clearStopHold s) else hotStop .quietZone s)
  else if prestop s && !forced then enterCooldown s
  else if stopEligible x s then
    match s.eng.stopHold with
    | some _ => s
    | none => s.setEng { s.eng with stopHold := some (after s.now s.cal.stopHoldMs) }
  else clearStopHold s

/-- A result in COOLDOWN (R97). -/
def evalCooldown (x : ResultRecord) (s : State) : State :=
  if !x.eRun then stopEngine .engineOff s
  else if forcedCondition s x then (if s.inQuiet then quietBreach 1 (resumeRunning s) else resumeRunning s)
  else if s.inQuiet then hotStop .quietZone s
  else if startWant s x && !quietBlock s && !prestop s then resumeRunning s
  else s

/-- What every evaluation for a result does before it acts on the engine state: prune (R78), note the SoC that QUIET_BREACH
reports, and clear the breach mark outside a QUIET zone (R87). -/
def beginResult (x : ResultRecord) (s : State) : State :=
  let s := prune s
  s.setEng { s.eng with lastSoc := x.soc, breachMark := s.eng.breachMark && s.inQuiet }

/-- ENG takes a result record (R78). -/
def engTakes (x : ResultRecord) (s : State) : State :=
  let s := beginResult x s
  match s.eng.state with
  | .stopped => evalStopped x s
  | .cranking => evalCranking x s
  | .pause => evalPause x s
  | .warmup => evalWarmup x s
  | .running => evalRunning x s
  | .cooldown => evalCooldown x s
  | .lockout => s

/-- ENG takes the oldest record that waits for it. -/
def engTakesNext (s : State) : State :=
  match s.mail.engIn with
  | [] => s
  | x :: rest => engTakes x (s.setMail { s.mail with engIn := rest })

/-- ENG_RESULT_EVALUATION (R78). -/
def execEngResultEvaluation (s : State) : Out := .next (engTakesNext s)

/-! ## Timer expiries (R89, R90, R92, R96, R97, R101) -/

/-- The state timer expires in an engine state: it runs, has reached its time, and ENG is in the state that started it (R101).
Every expiry prunes first (R78). Otherwise nothing happens (log entry 3). -/
def stateTimerExpiry (st : EngState) (act : State → State) (s : State) : State :=
  if s.eng.state == st && expired s.now s.eng.stateTimer then act (prune s) else s

/-- CRANK_TIMER_EXPIRY (R89). -/
def execCrankTimerExpiry (s : State) : Out :=
  .next (stateTimerExpiry .cranking act s)
where
  act (s : State) : State :=
    let attempts := s.eng.attempts + 1
    afterFailure 0 (raise .eng .crankFailed attempts s.cal.crankTimeout (s.setEng { s.eng with attempts }))

/-- PAUSE_TIMER_EXPIRY (R90). -/
def execPauseTimerExpiry (s : State) : Out :=
  .next (stateTimerExpiry .pause act s)
where
  act (s : State) : State :=
    if !quietBlock s || s.eng.forced then startEngine .retry s else stopEngine .crankAbandoned s

/-- WARM_TIMER_EXPIRY (R92). -/
def execWarmTimerExpiry (s : State) : Out :=
  .next (stateTimerExpiry .warmup act s)
where
  act (s : State) : State :=
    s.setEng { s.eng with state := .running, stateTimer := none, stopHold := none, attempts := 0 }

/-- COOLDOWN_TIMER_EXPIRY (R97). -/
def execCooldownTimerExpiry (s : State) : Out :=
  .next (stateTimerExpiry .cooldown (stopEngine .cooldownEnd) s)

/-- STOP_HOLD_EXPIRY (R96). -/
def execStopHoldExpiry (s : State) : Out :=
  .next (if s.eng.state == .running && expired s.now s.eng.stopHold then enterCooldown (prune s) else s)

/-! ## HALT, FAULT_CLEAR, RESTART at ENG -/

/-- ENG takes HALT (R98). -/
def engHalt (s : State) : State :=
  let s := prune s
  let s := s.setEng { s.eng with stateTimer := none, stopHold := none }
  match s.eng.state with
  | .stopped | .lockout => s
  | .cranking | .pause | .cooldown => stopEngine .halted s
  | .warmup | .running => hotStop .haltHot s

/-- FAULT_CLEAR (R91, R175). -/
def execFaultClear (s : State) : Out :=
  .next (takeRequest 0x23 noWait serve s)
where
  serve (f : Frame) (s : State) : State :=
    if byteAt f.payload 0 = 1 then
      let s := prune s
      match s.eng.state with
      | .lockout => reply f.type .done 1 (stopEngine .faultCleared (s.setEng { s.eng with attempts := 0 }))
      | .stopped | .cranking | .pause | .warmup | .running | .cooldown => reply f.type .done 0 s
    else reply f.type .badValue (byteAt f.payload 0) s

end Sys2Proof.Machine
end

