-- ==== Sys2Proof/Machine/Wear.lean ====
section
/-!
DEFINITION. The Wear Unit (06): residues, carries and saturation, levels, the lamp, the km rings, seeding and service.
-/
namespace Sys2Proof.Machine

/-- Counter `c` replaced. -/
def Wru.setCounter (w : Wru) (c : Nat) (k : Counter) : Wru := { w with counters := w.counters.setIfInBounds c k }

/-- The km tally of counter `c` (0 to 3). -/
def Wru.kmTally (w : Wru) (c : Nat) : Nat := w.tally[c]?.getD 0

/-- The km ring of counter `c` (0 to 3). -/
def Wru.kmRing (w : Wru) (c : Nat) : List Nat := w.ring[c]?.getD []

/-! ## Levels (R139, R142) -/

/-- A threshold that is present and reached by a value (R139). -/
def reachedThreshold (value threshold : Nat) : Bool := threshold != 0 && decide (threshold ≤ value)

/-- The level of a value against its ADVISORY, SERVICE and LIMIT thresholds (R139). -/
def gradeLevel (value adv svc lim : Nat) : Level :=
  if reachedThreshold value lim then .limit
  else if reachedThreshold value svc then .service
  else if reachedThreshold value adv then .advisory
  else .none

/-- The level counter `c` has by R139. -/
def gradeOf (cal : Cal) (c value : Nat) : Level :=
  gradeLevel value (cal.threshold c 0) (cal.threshold c 1) (cal.threshold c 2)

/-- The level of counter `c` set, with one WEAR_LEVEL when it changes (R142). -/
def setLevel (c : Nat) (l : Level) (s : State) : State :=
  let k := s.wru.counter c
  if l = k.level then s
  else raise .wru .wearLevel c (l.code + 256 * k.level.code) (s.setWru (s.wru.setCounter c { k with level := l }))

/-- Counter `c` graded (R139). -/
def regrade (c : Nat) (s : State) : State := setLevel c (gradeOf s.cal c (s.wru.counter c).value) s

/-- Counter `c` graded, when WRU is SEEDED (R136, R139). -/
def regradeSeeded (c : Nat) (s : State) : State := if s.wru.seeded then regrade c s else s

/-- All eight counters graded in id order (R137, R141). -/
def gradeAll (s : State) : State := (List.range 8).foldl (fun s c => regrade c s) s

/-! ## The lamp (R143) -/

/-- The pattern of Table 6-5. -/
def lampPatternFor (w : Wru) : LampPattern :=
  if !w.seeded then .off
  else if w.counters.toList.any fun k => k.level == .limit then .flash
  else if w.counters.toList.any fun k => k.level == .service then .steady
  else .off

/-- A lamp pattern entered: WLAMP, phase and timer (R143). DESIGN CHOICE (log entry 19), safe: the phase, which is the half of
the flash cycle, is kept outside FLASH, where nothing reads it. -/
def Wru.enterPattern (w : Wru) (p : LampPattern) (now : PartTime) : Wru :=
  match p with
  | .off => { w with pattern := .off, wlamp := false, lampTimer := none }
  | .steady => { w with pattern := .steady, wlamp := true, lampTimer := none }
  | .flash => { w with pattern := .flash, wlamp := true, phase := .lit, lampTimer := some (after now 500) }

/-- The lamp pattern set after a change of a level or of the seeded status; an unchanged pattern goes on as it was (R143). -/
def setLamp (s : State) : State :=
  let p := lampPatternFor s.wru
  if p = s.wru.pattern then s else s.setWru (s.wru.enterPattern p s.now)

/-! ## Feeding the counters (R130 to R134, R146) -/

/-- Whole units added to a value, and how many of them went in (R134). DEDUCED (log entry 15), unsafe: the mark is set when
the sum passes the largest value, not when it equals it, and only the units that fit enter the km tally. -/
def Counter.addUnits (k : Counter) (units : Nat) : Counter × Nat :=
  if Config.counterMax < k.value + units then
    ({ k with value := Config.counterMax, saturated := true }, Config.counterMax - k.value)
  else ({ k with value := k.value + units }, units)

/-- Units carried into a counter's km tally, which saturates at 65535; counters 4 to 7 have none (R146, R147). -/
def Wru.addTally (w : Wru) (c units : Nat) : Wru :=
  { w with tally := w.tally.setIfInBounds c (min 65535 (w.kmTally c + units)) }

/-- The value of counter `c` is now that of `k`; it is graded when it has changed and WRU is SEEDED (R133, R139). -/
def putCounter (c : Nat) (k : Counter) (carried : Nat) (s : State) : State :=
  let old := (s.wru.counter c).value
  let s := s.setWru ((s.wru.setCounter c k).addTally c carried)
  if k.value = old then s else regradeSeeded c s

/-- An increment to a counter with a residue, whose carry unit is `unit` (R133, R134). -/
def feedResidue (c unit inc : Nat) (s : State) : State :=
  let k := s.wru.counter c
  if k.saturated then s
  else
    let r := k.residue + inc
    let u := k.addUnits (r / unit)
    putCounter c { u.1 with residue := r % unit } u.2 s

/-- An increment to the value of STARTS or HOTSTOP (R132, R133, R134). -/
def feedCount (c n : Nat) (s : State) : State :=
  let k := s.wru.counter c
  if k.saturated then s else putCounter c (k.addUnits n).1 0 s

/-- The engine states in which RUNTIME counts (R131). -/
def EngState.counts (e : EngState) : Bool :=
  match e with
  | .warmup | .running | .cooldown => true
  | .stopped | .cranking | .pause | .lockout => false

/-- The increments of a result record, counter by counter in id order (R130, R131): energy in 0.1 J, RUNTIME in ms. -/
def resultIncrements (c : Cal) (eng : EngState) (x : ResultRecord) : List (Nat × Nat × Nat) :=
  [(0, 10000, x.shares.axle1.toNat * x.dt), (1, 10000, x.shares.axle2.toNat * x.dt)]
    ++ (if c.axleCount = 3 then [(2, 10000, x.shares.axle3.toNat * x.dt)] else [])
    ++ [(3, 10000, x.shares.batt.natAbs * x.dt * x.w / 256)]
    ++ (if eng.counts then [(5, 1000, x.dt)] else [])
    ++ [(7, 10000, x.shares.res.toNat * x.dt)]

/-- WRU takes a result record (R130 to R134); the lamp is set after the last grading (R142). -/
def wruTakes (x : ResultRecord) (s : State) : State :=
  setLamp ((resultIncrements s.cal s.eng.state x).foldl (fun s inc => feedResidue inc.1 inc.2.1 inc.2.2 s) s)

/-- WRU takes an increment that ENG sent (R132). -/
def wruTakesIncrement (c n : Nat) (s : State) : State := setLamp (feedCount c n s)

/-- The tally of each of counters 0 to 3 appended to its ring, whose oldest entry is dropped when it is full, and set to 0
(R146). -/
def Wru.kmPush (w : Wru) : Wru :=
  { w with
    ring := Vector.ofFn fun c : Fin 4 =>
      let r := w.kmRing c.val
      (if Config.ringDepth ≤ r.length then r.drop 1 else r) ++ [w.kmTally c.val]
    tally := Vector.replicate 4 0 }

/-- WRU takes a distance from RTE (R145). -/
def wruTakesDistance (d : Nat) (s : State) : State :=
  let sum := s.wru.kmAcc + d
  if 1000000 ≤ sum then s.setWru { s.wru.kmPush with kmAcc := sum - 1000000 }
  else s.setWru { s.wru with kmAcc := sum }

/-- WRU takes the oldest record that waits for it. -/
def wruTakesNext (s : State) : State :=
  match s.mail.wruIn with
  | [] => s
  | x :: rest => wruTakes x (s.setMail { s.mail with wruIn := rest })

/-- WRU_RESULT (R130). -/
def execWruResult (s : State) : Out := .next (wruTakesNext s)

/-- WRU takes the oldest increment that waits for it. -/
def wruTakesNextIncrement (s : State) : State :=
  match s.mail.incIn with
  | [] => s
  | (c, n) :: rest => wruTakesIncrement c n (s.setMail { s.mail with incIn := rest })

/-- ENGINE_INCREMENT (R132). -/
def execEngineIncrement (s : State) : Out := .next (wruTakesNextIncrement s)

/-- WRU takes the oldest distance that waits for it. -/
def wruTakesNextDistance (s : State) : State :=
  match s.mail.kmIn with
  | [] => s
  | d :: rest => wruTakesDistance d (s.setMail { s.mail with kmIn := rest })

/-- KM_DISTANCE (R145). -/
def execKmDistance (s : State) : Out := .next (wruTakesNextDistance s)

/-- LAMP_TIMER_EXPIRY (R144): the phase and WLAMP toggle in FLASH, and the timer starts again. -/
def execLampTimerExpiry (s : State) : Out :=
  .next (if s.wru.pattern == .flash && expired s.now s.wru.lampTimer then
      s.setWru
        (match s.wru.phase with
        | .lit => { s.wru with phase := .dark, wlamp := false, lampTimer := some (after s.now 500) }
        | .dark => { s.wru with phase := .lit, wlamp := true, lampTimer := some (after s.now 500) })
    else s)

/-- WRU takes the end of LOADING (R141). -/
def wruTakesLoadEnd (s : State) : State :=
  if s.mail.loadEndWru then
    let s := s.setMail { s.mail with loadEndWru := false }
    if s.wru.seeded then setLamp (gradeAll s) else s
  else s

/-- WRU_LOADING_GRADE (R141). -/
def execWruLoadingGrade (s : State) : Out := .next (wruTakesLoadEnd s)

/-- A write of the threshold with this id: WRU grades its counter when it is SEEDED (R141). -/
def gradeThreshold (id : Nat) (s : State) : State :=
  if s.wru.seeded then setLamp (regrade ((id - 96) / 3) s) else s

/-! ## Seeding and service (R137, R138) -/

/-- A counter with its seed added (R137). -/
def Counter.seed (k : Counter) (seed : Nat) : Counter :=
  if Config.counterMax < k.value + seed then { k with value := Config.counterMax, saturated := true }
  else { k with value := k.value + seed }

/-- Every counter with its seed added, and WRU SEEDED (R137). -/
def Wru.addSeeds (w : Wru) (p : List Byte) : Wru :=
  { w with counters := Vector.ofFn fun c : Fin 8 => (w.counter c.val).seed (seedAt p c.val), seeded := true }

/-- WEAR_SEED (R137). -/
def execWearSeed (s : State) : Out :=
  .next (takeRequest 0x60 wruLoaded serve s)
where
  serve (f : Frame) (s : State) : State :=
    if s.wru.seeded then reply f.type .refusedState 1 s
    else
      let t := setLamp (gradeAll (s.setWru (s.wru.addSeeds f.payload)))
      reply f.type .done (t.wru.counters.toList.countP Counter.saturated) t

/-- A counter's value, residue, tally, ring, mark and level cleared by a service (R138). -/
def Wru.serviced (w : Wru) (c : Nat) : Wru :=
  { w.setCounter c Counter.reset with
    tally := w.tally.setIfInBounds c 0
    ring := w.ring.setIfInBounds c [] }

/-- WEAR_SERVICE (R138). -/
def execWearService (s : State) : Out :=
  .next (takeRequest 0x61 wruLoaded serve s)
where
  serve (f : Frame) (s : State) : State :=
    let c := byteAt f.payload 0
    if 7 < c then reply f.type .badValue 0xFFFF s
    else if !s.wru.seeded then reply f.type .refusedState 0 s
    else
      let level := (s.wru.counter c).level
      let t := s.setWru (s.wru.serviced c)
      let t := if level = .none then t else setLamp (raise .wru .wearLevel c (256 * level.code) t)
      reply f.type .done level.code t

/-! ## Predictions (R148) -/

/-- The rate of a ring, or 0 for an empty one (R148, R178). -/
def ringRate (ring : List Nat) : Nat := ring.sum / ring.length

/-- The service prediction of one of counters 0 to 3 (R148). -/
def prediction (cal : Cal) (w : Wru) (c : Nat) : Nat :=
  let svc := cal.threshold c 1
  let value := (w.counter c).value
  let ring := w.kmRing c
  if !w.seeded then 65535
  else if svc = 0 then 65535
  else if svc ≤ value then 0
  else if ring.length < 4 then 65535
  else if ringRate ring = 0 then 65535
  else min 65534 ((svc - value) / ringRate ring)

end Sys2Proof.Machine
end

