-- ==== Sys2Proof/Machine/Demand.lean ====
section
/-!
DEFINITION. The Dispatch Unit (01, 02): taking a DEMAND, the permit and its line, the DISPATCH answer, publishing the result
record, the demand timer, and the resistor heat model.
-/
namespace Sys2Proof.Machine

/-- The permit and its line, which always change together (R6). -/
def Dsp.setPermit (d : Dsp) (p : Permit) : Dsp := { d with permit := p, tpermit := p == .on }

/-- Δt of R4. -/
def intervalMs (now : PartTime) (last : Option PartTime) : Nat :=
  match last with
  | none => 0
  | some t => min 100 (elapsed now t)

/-- The permit settled for a DEMAND (R9): a released accelerator re-arms a WAIT_RELEASE permit with PERMIT_RESTORED. -/
def settlePermit (x : DemandFields) (s : State) : State :=
  if s.dsp.permit = .waitRelease ∧ x.a < s.cal.accelDb then
    raise .dsp .permitRestored s.dsp.cause.code x.v (s.setDsp (s.dsp.setPermit .on))
  else s

/-- What a dispatch reads at the take (R12, R13), for an envelope lookup already made. -/
def dispatchInput (x : DemandFields) (v : MapValues) (flag : EnvFlag) (s : State) : DispatchInput :=
  let h := healthFactor s.cal s.wru.seeded (s.wru.counter 3).level
  { fields := x
    permit := s.dsp.permit
    engine := s.eng.state
    zone := s.rte.zone
    socTarget := (s.rte.offered s.cal).socTarget
    disEff := effectiveLimit x.disRep v.dis h
    chgEff := effectiveLimit x.chgRep v.chg h
    envFlag := flag
    resistLevel := (s.wru.counter 7).level
    heat := s.dsp.heat
    genPrev := s.dsp.genPrev
    cal := s.cal }

/-- The DISPATCH of a decision (R24). -/
def dispatchMsg (s : State) (i : DispatchInput) (w dt : Nat) (d : Decision) : DispatchMsg :=
  { mode := d.mode, flags := d.flags, permit := s.dsp.permit, engineRun := s.eng.state.requestsRun
    shares := d.shares, disEff := i.disEff, chgEff := i.chgEff, w, socTarget := i.socTarget, zone := i.zone
    qd := quietField (s.rte.offered s.cal).qd, dt }

/-- The result record of a decision (Table 1-13). -/
def resultRecord (x : DemandFields) (w dt : Nat) (d : Decision) : ResultRecord :=
  { mode := d.mode, v := x.v, dt, soc := x.soc, eRun := x.eRun, shares := d.shares, flags := d.flags, w }

/-- The record published: it replaces the previous one and waits at each of the four places (R26). -/
def publish (x : ResultRecord) (s : State) : State :=
  (s.setDsp { s.dsp with record := some x }).setMail
    { s.mail with
      heatIn := s.mail.heatIn ++ [x], rteIn := s.mail.rteIn ++ [x]
      engIn := s.mail.engIn ++ [x], wruIn := s.mail.wruIn ++ [x] }

/-- The state in which the shares are computed: interval measured, permit settled, demand timer started afresh (R4, R9,
R10). -/
def demandTaken (x : DemandFields) (s : State) : State :=
  let s := settlePermit x s
  s.setDsp
    { s.dsp with lastDemand := some s.now, demandTimer := some (after s.now s.cal.demandTimeout) }

/-- A DEMAND dispatched in ACTIVE, stages 1 to 9 of R3. -/
def dispatch (x : DemandFields) (s : State) : State :=
  let dt := intervalMs s.now s.dsp.lastDemand
  let s := demandTaken x s
  let look := envLookup s.cal (s.mdc.straps.mw == 3) x.temp x.soc s.env
  let i := dispatchInput x look.1 look.2.1 s
  let d := decideShares i
  let s := (s.setEnv look.2.2).setDsp { s.dsp with genPrev := d.genPrev }
  publish (resultRecord x look.1.stress dt d) (answer (.dispatch (dispatchMsg s i look.1.stress dt d)) s)

/-- The zero shares of a NOT_ACTIVE answer (R25). -/
def Shares.zero : Shares := ⟨0, 0, 0, 0, 0, 0, 0, 0⟩

/-- The NOT_ACTIVE answer (R25). -/
def notActiveMsg (s : State) : DispatchMsg :=
  let l := s.rte.offered s.cal
  { mode := .notActive, flags := DispatchFlags.clear, permit := .off, engineRun := s.eng.state.requestsRun
    shares := Shares.zero, disEff := 0, chgEff := 0, w := 0, socTarget := l.socTarget, zone := s.rte.zone
    qd := quietField l.qd, dt := 0 }

/-- DEMAND (R3, R25). DSP takes the end of LOADING before any request (R155), and the heat model takes every record before DSP
takes the next DEMAND (R45; log entry 22). -/
def execDemand (s : State) : Out :=
  .next (takeRequest 0x10 (fun _ s => s.mail.heatIn.isEmpty && !s.mail.loadEndDsp) serve s)
where
  serve (f : Frame) (s : State) : State :=
    match s.mdc.op with
    | .active => dispatch (demandFields f.payload) s
    | .loading | .config => answer (.dispatch (notActiveMsg s)) s

/-- DEMAND_TIMER_EXPIRY (R10). -/
def execDemandTimerExpiry (s : State) : Out :=
  .next (if expired s.now s.dsp.demandTimer then
      let s := s.setDsp { s.dsp with demandTimer := none }
      match s.dsp.permit with
      | .on =>
        raise .dsp .demandTimeout 0 s.cal.demandTimeout
          (s.setDsp { s.dsp.setPermit .waitRelease with cause := .timeout })
      | .waitRelease | .off => s
    else s)

/-! ## The heat model (R45 to R48) -/

/-- H after a record (R45). -/
def heatAfter (c : Cal) (heat : Nat) (x : ResultRecord) : Nat :=
  min c.heatCap ((heat : Int) + (x.shares.res - c.resCool) * x.dt).toNat

/-- The comparison with the thresholds after an update (R46). -/
def heatMark (res : Int) (s : State) : State :=
  let pct := heatPercent s.cal s.dsp.heat
  if !s.dsp.hotMark && decide (s.cal.heatHot < s.dsp.heat) then
    raise .dsp .resistorHot pct res.toNat (s.setDsp { s.dsp with hotMark := true })
  else if s.dsp.hotMark && decide (s.dsp.heat < s.cal.heatCool) then
    raise .dsp .resistorCool pct res.toNat (s.setDsp { s.dsp with hotMark := false })
  else s

/-- The heat model takes a record (R45, R46). -/
def heatTakes (x : ResultRecord) (s : State) : State :=
  heatMark x.shares.res (s.setDsp { s.dsp with heat := heatAfter s.cal s.dsp.heat x })

/-- The heat model takes the oldest record that waits for it. -/
def heatTakesNext (s : State) : State :=
  match s.mail.heatIn with
  | [] => s
  | x :: rest => heatTakes x (s.setMail { s.mail with heatIn := rest })

/-- HEAT_UPDATE (R45). -/
def execHeatUpdate (s : State) : Out := .next (heatTakesNext s)

/-- H clamped to the capacity in force (R47, R48). -/
def clampHeat (s : State) : State := s.setDsp { s.dsp with heat := min s.dsp.heat s.cal.heatCap }

/-- DSP takes the end of LOADING (R47). After a power-on or RESETN H becomes H_hot and the hot mark is clear; after a RESTART H
is clamped and the mark kept. -/
def dspTakesLoadEnd (s : State) : State :=
  if s.mail.loadEndDsp then
    let s := s.setMail { s.mail with loadEndDsp := false }
    if s.dsp.heatSet then clampHeat s
    else s.setDsp { s.dsp with heat := s.cal.heatHot, hotMark := false, heatSet := true }
  else s

/-- HEAT_INIT (R47). -/
def execHeatInit (s : State) : Out := .next (dspTakesLoadEnd s)

/-! ## START and HALT at DSP (R7, R8) -/

/-- DSP's items that START, HALT and the resets set alike (Table 1-2). -/
def Dsp.withdrawn (d : Dsp) (p : Permit) : Dsp :=
  { d.setPermit p with lastDemand := none, demandTimer := none, genPrev := 0 }

/-- DSP takes START (R7). -/
def dspStart (s : State) : State := s.setDsp { s.dsp.withdrawn .waitRelease with cause := .start }

/-- DSP takes HALT (R8). -/
def dspHalt (s : State) : State := s.setDsp (s.dsp.withdrawn .off)

end Sys2Proof.Machine
end

