-- ==== Sys2Proof/Machine/Notice.lean ====
section
/-!
DEFINITION. The Notice Unit (09 section 9.5): taking event records, and when a NOTICE falls due.
-/
namespace Sys2Proof.Machine

/-- NTU takes a record (R180, R181). -/
def Ntu.take (e : EventRec) (now : PartTime) (delay : Nat) (n : Ntu) : Ntu :=
  if Config.eventDepth ≤ n.queue.length then { n with lost := true }
  else
    let queue := n.queue ++ [e]
    if 6 ≤ queue.length then { n with queue, due := true, timer := none }
    else if n.queue.isEmpty && !n.due then
      if delay = 0 then { n with queue, due := true }
      else { n with queue, timer := some (after now delay) }
    else { n with queue }

/-- The oldest record of a block among those raised, and the others in their order (R179). -/
def takeRaised (src : Block) : List (Block × EventRec) → Option (EventRec × List (Block × EventRec))
  | [] => none
  | (b, e) :: rest =>
    if b = src then some (e, rest)
    else (takeRaised src rest).map fun r => (r.1, (b, e) :: r.2)

/-- EVENT_RAISED (R180): NTU takes the oldest record that waits from one block. -/
def execEventRaised (src : Block) (s : State) : Out :=
  .next (match takeRaised src s.mail.raised with
    | none => s
    | some (e, rest) =>
      (s.setMail { s.mail with raised := rest }).setNtu (s.ntu.take e s.now s.cal.noticeDelay))

/-- COALESCING_TIMER_EXPIRY (R181). -/
def execCoalescingTimerExpiry (s : State) : Out :=
  .next (if expired s.now s.ntu.timer then s.setNtu { s.ntu with due := true, timer := none } else s)

/-- The records the next NOTICE carries: the oldest, up to six (R182). -/
def Ntu.noticeRecords (n : Ntu) : List EventRec := n.queue.take 6

/-- NTU once a NOTICE has been built (R182). -/
def Ntu.noticeTaken (n : Ntu) : Ntu :=
  { n with queue := n.queue.drop 6, lost := false, due := n.due && !(n.queue.drop 6).isEmpty }

end Sys2Proof.Machine
end

