-- ==== Sys2Proof/Machine/Link.lean ====
section
/-!
DEFINITION. The Link Controller (08): rate detection, characters and frames, breaks and framing faults, the intake queue,
staging and the arbiter, and the link flags.
-/
namespace Sys2Proof.Machine

/-! ## Bit time and rate detection (R163, R164) -/

/-- The bit time in REFCLK cycles (Table 8-2). -/
def bitTime (divisor : Nat) : Nat :=
  match divisor with
  | 0 => 20
  | 1 => 40
  | n => 16 * (n + 1)

/-- 2 ms in REFCLK cycles (R151, R164). -/
def breakCycles : Nat := 36864

/-- 5 ms in REFCLK cycles (R151, R167). -/
def gapCycles : Nat := 92160

/-- BREAK_WAIT_END (R164): LRX has stayed low for 2 ms, in any phase. A shorter low period has no effect. DESIGN CHOICE (log entry
32), safe: a measurement that a new break abandons leaves its count and overflow mark as they were; the next one sets both. -/
def execBreakWaitEnd (low : Nat) (s : State) : Out :=
  .next (if s.lnk.state == .rateUnknown && decide (breakCycles ≤ low) then
      s.setLnk { s.lnk with phase := .waitStart, counting := false }
    else s)

/-- MEASURE_START (R164): the falling edge after the break. -/
def execMeasureStart (s : State) : Out :=
  .next (if s.lnk.state == .rateUnknown && s.lnk.phase == .waitStart then
      s.setLnk { s.lnk with phase := .measure, counting := false }
    else s)

/-- MEASURE_FIRST_RISING_EDGE (R164). -/
def execMeasureFirstRisingEdge (s : State) : Out :=
  .next (if s.lnk.state == .rateUnknown && s.lnk.phase == .measure && !s.lnk.counting then
      s.setLnk { s.lnk with counting := true, measCount := 0, overflow := false }
    else s)

/-- MEASUREMENT_COUNT_OVERFLOW (R164): the count passes 65535. -/
def execMeasurementCountOverflow (s : State) : Out :=
  .next (if s.lnk.state == .rateUnknown && s.lnk.phase == .measure && s.lnk.counting then
      s.setLnk { s.lnk with measCount := 0, overflow := true }
    else s)

/-- A staged frame begins transmission: each of DROPPED and CHECK_ERR that it carries is cleared, unless a discard of that kind
has occurred since it was staged (R172). It is sent to its end at the divisor of this moment (R171). -/
def Lnk.beginTransmit (f : Staged) (l : Lnk) : Lnk :=
  { l with
    transmitting := some f
    txDivisor := l.divisor
    dropped := l.dropped && !(f.flags.dropped && !f.newDropped)
    checkErr := l.checkErr && !(f.flags.checkErr && !f.newCheckErr) }

/-- The waiting frame, if present, becomes the transmitting frame of an idle transmitter (R171). -/
def Lnk.promote (l : Lnk) : Lnk :=
  match l.transmitting, l.waiting with
  | none, some f => { l with waiting := none }.beginTransmit f
  | _, _ => l

/-- The measurement is accepted: no overflow and a divisor in 0..255, that is n from 64 to 32,831 (R164). -/
def measureAccepted (overflow : Bool) (n : Nat) : Bool := !overflow && decide (64 ≤ n) && decide (n ≤ 32831)

/-- The divisor of a measurement (R164). -/
def measuredDivisor (n : Nat) : Nat := (n + 64) / 128 - 1

/-- MEASUREMENT_END (R164): counting stops at n; the rate is taken or the measurement rejected. On acceptance transmission
resumes (R171). -/
def execMeasurementEnd (n : Nat) (s : State) : Out :=
  .next (if s.lnk.state == .rateUnknown && s.lnk.phase == .measure && s.lnk.counting then
      let l := { s.lnk with counting := false, measCount := n }
      if measureAccepted l.overflow n then
        raise .lnk .linkRateSet (measuredDivisor n) n
          (s.setLnk { l with state := .ready, divisor := measuredDivisor n, receiver := .hunt }.promote)
      else s.setLnk { l with phase := .waitBreak }
    else s)

/-! ## Characters and frames (R165 to R169) -/

/-- CHECK_ERR set by a discard; a frame that waits staged is marked, so that its transmission does not clear the flag
(R172). -/
def Lnk.flagCheckErr (l : Lnk) : Lnk :=
  { l with checkErr := true, waiting := l.waiting.map fun f => { f with newCheckErr := true } }

/-- DROPPED set by a discard (R169, R172). -/
def Lnk.flagDropped (l : Lnk) : Lnk :=
  { l with dropped := true, waiting := l.waiting.map fun f => { f with newDropped := true } }

/-- The receiver in HUNT with the gap timer stopped. -/
def Lnk.toHunt (l : Lnk) : Lnk := { l with receiver := .hunt, gapTimer := none }

/-- The receiver is assembling a frame. -/
def Lnk.isAssembling (l : Lnk) : Bool :=
  match l.receiver with
  | .hunt => false
  | .assembling _ => true

/-- The length byte of a frame being assembled, once it has been received (Table 8-5). -/
def frameLength (bytes : List Byte) : Option Nat := (bytes[2]?).map BitVec.toNat

/-- The frame lacks nothing: 5 + length bytes (R166). -/
def frameComplete (bytes : List Byte) : Bool :=
  match frameLength bytes with
  | some n => decide (5 + n ≤ bytes.length)
  | none => false

/-- The CRC of a complete frame agrees (R166, R167). -/
def frameValid (bytes : List Byte) : Bool :=
  let n := bytes.length
  (crc16 ((bytes.drop 1).take (n - 3))).toNat == byteAt bytes (n - 2) * 256 + byteAt bytes (n - 1)

/-- The type and payload of a complete frame (Table 8-5). -/
def frameOf (bytes : List Byte) : Frame :=
  { type := bytes.getD 1 0, payload := (bytes.drop 3).take (bytes.length - 5) }

/-- A valid frame offered to the intake queue (R169). -/
def Lnk.offer (f : Frame) (l : Lnk) : Lnk :=
  if l.intake.length < Config.intakeDepth then { l with intake := l.intake ++ [f] } else l.flagDropped

/-- A frame is complete (R167): the CRC is compared, and the receiver returns to HUNT. -/
def Lnk.completeFrame (bytes : List Byte) (l : Lnk) : Lnk :=
  if frameValid bytes then l.toHunt.offer (frameOf bytes) else l.toHunt.flagCheckErr

/-- A character received in READY (R167, R168). -/
def Lnk.receive (b : Byte) (l : Lnk) : Lnk :=
  let l := { l with awaitRise := false }
  match l.receiver with
  | .hunt => if b = 0xB5 then { l with receiver := .assembling [b], gapTimer := some gapCycles } else l
  | .assembling bytes =>
    let all := bytes ++ [b]
    if all.length = 3 ∧ 56 < b.toNat then l.toHunt.flagCheckErr
    else if frameComplete all then l.completeFrame all
    else { l with receiver := .assembling all, gapTimer := some gapCycles }

/-- CHARACTER_RECEIVED (R167). In RATE_UNKNOWN the receiver assembles no characters (R164). -/
def execCharacterReceived (b : Byte) (s : State) : Out :=
  .next (if s.lnk.state == .ready then s.setLnk (s.lnk.receive b) else s)

/-- FRAME_RECEIVED (R167): the receipt of a frame's last CRC byte. It happens only where the frame being assembled lacks
exactly that byte; DESIGN CHOICE (log entry 9), safe. -/
def execFrameReceived (b : Byte) (s : State) : Out :=
  .next (match s.lnk.state, s.lnk.receiver with
    | .ready, .assembling bytes => if frameComplete (bytes ++ [b]) then s.setLnk (s.lnk.receive b) else s
    | _, _ => s)

/-- The partial frame, if any, discarded with CHECK_ERR (R165, R168). -/
def Lnk.discardPartial (l : Lnk) : Lnk := if l.isAssembling then l.toHunt.flagCheckErr else l

/-- GAP_TIMER_EXPIRY (R168). -/
def execGapTimerExpiry (s : State) : Out :=
  .next (if s.lnk.gapTimer = some 0 then s.setLnk { s.lnk.discardPartial with gapTimer := none } else s)

/-- FRAMING_FAULT (R165): LRX rose within 20 bit times of the falling edge, exactly 20 included: DESIGN CHOICE (log entry 16),
unsafe. -/
def execFramingFault (low : Nat) (s : State) : Out :=
  .next (if s.lnk.state == .ready && decide (low ≤ 20 * bitTime s.lnk.divisor) then
      s.setLnk { s.lnk.discardPartial with awaitRise := false }
    else s)

/-- BREAK (R165): LRX is still low after 20 bit times. -/
def execLineBreak (low : Nat) (s : State) : Out :=
  .next (if s.lnk.state == .ready && decide (20 * bitTime s.lnk.divisor < low) then
      if s.mdc.straps.rate = 3 then
        s.setLnk { s.lnk.toHunt with state := .rateUnknown, phase := .waitBreak, counting := false }
      else s.setLnk { s.lnk.toHunt with awaitRise := true }
    else s)

/-! ## Staging (R171, R172, R182) -/

/-- The arbiter may stage: READY, restart hold clear, waiting slot empty (R171). -/
def Lnk.mayStage (l : Lnk) : Bool := l.state == .ready && !l.restartHold && l.waiting.isNone

/-- A frame staged: it waits, or is transmitted at once when none is (R171). -/
def Lnk.stage (f : Staged) (l : Lnk) : Lnk := { l with waiting := some f }.promote

/-- A frame as it is staged now: its payload begins with the link-flags byte, and its CRC is complete (R166, R171, R172). -/
def stagedFrame (type : Byte) (body : List Byte) (flags : LinkFlags) (restartReply : Bool) : Staged :=
  { bytes := frameBytes type (byte flags.code :: body), flags, restartReply, newDropped := false, newCheckErr := false }

/-- The DONE reply of a RESTART (R171). -/
def Answer.isRestartDone : Answer → Bool
  | .reply echo status _ _ => echo == 0x22 && status == .done
  | .dispatch _ | .report _ _ _ => false

/-- STAGE_ANSWER (R171): the oldest answer is staged; the DONE reply of a RESTART sets restart hold. -/
def execStageAnswer (s : State) : Out :=
  .next (match s.lnk.replies with
    | [] => s
    | a :: rest =>
      if s.lnk.mayStage then
        let f := stagedFrame a.type a.body (linkFlagsNow s (!s.ntu.queue.isEmpty)) a.isRestartDone
        s.setLnk ({ s.lnk with replies := rest, restartHold := a.isRestartDone }.stage f)
      else s)

/-- STAGE_NOTICE (R171, R182): with no answer waiting and a NOTICE due, the NOTICE is built and staged. -/
def execStageNotice (s : State) : Out :=
  .next (if s.lnk.mayStage && s.lnk.replies.isEmpty && s.ntu.due && !s.ntu.queue.isEmpty then
      let n := s.ntu.noticeTaken
      let f := stagedFrame 0xC0 (noticeBody s.ntu.lost s.ntu.noticeRecords) (linkFlagsNow s (!n.queue.isEmpty)) false
      (s.setNtu n).setLnk (s.lnk.stage f)
    else s)

end Sys2Proof.Machine
end

