-- ==== Sys2Proof/Machine/Mode.lean ====
section
/-!
DEFINITION. The Mode Controller (07): the resets, LOADING and the calibration image, START, HALT, the calibration requests,
RESTART, and the end of a transmission, at which a RESTART takes effect.
-/
namespace Sys2Proof.Machine

/-! ## LOADING (R150, R153 to R155) -/

/-- The calibration set is final (R155): MDC enters CONFIG and raises STATE_CHANGE, and the end of LOADING waits to be taken
at DSP and at WRU. -/
def finishLoading (c : Cal) (s : State) : State :=
  let s := s.setMdc { s.mdc with op := .config, cal := c }
  let s := s.setMail { s.mail with loadEndDsp := true, loadEndWru := true }
  raise .mdc .stateChange OpState.config.code OpState.loading.code s

/-- The defaults are kept (R153): CAL_DEFAULTED with its argument, and the set is final. -/
def keepDefaults (a : Nat) (s : State) : State := finishLoading Cal.defaults (raise .mdc .calDefaulted a 0xFFFF s)

/-- MDC enters LOADING and decides from the latched straps whether to read the image (R153). -/
def enterLoading (s : State) : State :=
  let s := s.setMdc { s.mdc with op := .loading }
  if s.mdc.straps.mw = 3 then keepDefaults 1 s
  else if s.mdc.straps.calskip then keepDefaults 0 s
  else s.setEnv { s.env with port := .imageRead }

/-- Every block at its power-on values, with the straps just latched (R1, R72, R77, R104, R129, R150, R162, R183). The queue
of commands is not the part's and is kept. -/
def resetValues (straps : Straps) (s : State) : State :=
  { lnk := Lnk.reset straps, mdc := Mdc.reset straps, dsp := Dsp.reset, env := Env.reset, eng := Eng.reset
    rte := Rte.reset, wru := Wru.reset, ntu := Ntu.reset, mail := Mail.reset, pending := s.pending }

/-- POWER_ON (R150). -/
def execPowerOn (straps : Straps) (s : State) : Out := .next (enterLoading (resetValues straps s))

/-- RESETN (R150): one pulse, from its assertion to the latching of the straps at its rising edge; DEDUCED (log entry
25), safe. -/
def execResetn (straps : Straps) (s : State) : Out := .next (enterLoading (resetValues straps s))

/-- The bytes of the image from an address on (R152). -/
def imageBytes (m : MapData) (first count : Nat) : List Byte := (List.range count).map fun k => mapByte m (first + k)

/-- The image's CRC agrees with bytes 0x000200 and 0x000201 (R152, R153). -/
def imageValid (m : MapData) : Bool := (crc16 (imageBytes m 0 512)).toNat == mapWord m 512

/-- The value of an image slot, for its id (R152, R154). -/
def imageSlot (m : MapData) (id : Nat) : Int := calValue id (mapWord m (4 * id) * 65536 + mapWord m (4 * id + 2))

/-- The calibration set of a valid image: each known id takes its slot, clamped to its range (R154). -/
def imageCal (m : MapData) : Cal :=
  (List.range 128).foldl (fun c id => if calKnown id then c.set id (calClamp id (imageSlot m id)) else c) Cal.defaults

/-- The known ids whose slots are clamped, in id order (R154). -/
def clampedIds (m : MapData) : List Nat :=
  (List.range 128).filter fun id => calKnown id && decide (calClamp id (imageSlot m id) ≠ imageSlot m id)

/-- IMAGE_READ_END (R153 to R155). -/
def execImageReadEnd (m : MapData) (s : State) : Out :=
  .next (if s.mdc.op == .loading && s.env.port == .imageRead then
      let s := s.setEnv { s.env with port := .idle }
      if imageValid m then
        finishLoading (imageCal m) ((clampedIds m).foldl (fun s id => raise .mdc .calClamped 0 id s) s)
      else keepDefaults 2 s
    else s)

/-! ## START and HALT (R157, R158) -/

/-- START (R157, R158, Table 9-2). One that DSP and WRU will take finds the end of LOADING taken by both (R155; log entry 22). -/
def execStart (s : State) : Out :=
  .next (takeRequest 0x20 ready serve s)
where
  ready (_f : Frame) (s : State) : Bool :=
    s.mdc.op != .config || s.cal.firstFailure.isSome || (!s.mail.loadEndDsp && !s.mail.loadEndWru)
  serve (f : Frame) (s : State) : State :=
    match s.mdc.op with
    | .config =>
      match s.cal.firstFailure with
      | some detail => reply f.type .badCal detail s
      | none =>
        let s := s.setMdc { s.mdc with op := .active }
        let s := raise .mdc .stateChange OpState.active.code OpState.config.code (reply f.type .done 0 s)
        let s := dspStart s
        rteStart (s.setEnv { s.env with last := none })
    | .loading | .active => reply f.type .refusedState s.mdc.op.code s

/-- HALT (R158, R98, R8). ENG takes every record published before the HALT first (R98), and so does RTE, whose cursor does not move
in CONFIG and moves again from the first result after the next START (R104; log entry 22). -/
def execHalt (s : State) : Out :=
  .next (takeRequest 0x21 ready serve s)
where
  ready (_f : Frame) (s : State) : Bool := s.mdc.op != .active || (s.mail.engIn.isEmpty && s.mail.rteIn.isEmpty)
  serve (f : Frame) (s : State) : State :=
    match s.mdc.op with
    | .active =>
      let s := s.setMdc { s.mdc with op := .config }
      let s := raise .mdc .stateChange OpState.config.code OpState.active.code (reply f.type .done 0 s)
      engHalt (dspHalt s)
    | .loading | .config => reply f.type .refusedState s.mdc.op.code s

/-! ## Calibration requests (R159, R160) -/

/-- What a write of a parameter does at once (R48, R141, R159). -/
def calWriteEffect (id : Nat) (s : State) : State :=
  if id = 27 then clampHeat s
  else if 96 ≤ id ∧ id ≤ 119 then gradeThreshold id s
  else s

/-- CAL_WRITE (R159). The heat model takes every record published before a write of res_cap_kj first, and before a write of
res_cool, which takes effect in the update of the first dispatch after the next START (R48). DSP takes the end of LOADING before
a write that clamps H, and WRU before one that grades a counter (R155; log entry 22). WRU takes every record published before a
write of axle_count, which is none of the writes that act in CONFIG (R159), so the interval of a record is accounted for with the
axles it was dispatched with. -/
def execCalWrite (s : State) : Out :=
  .next (takeRequest 0x30 ready serve s)
where
  ready (f : Frame) (s : State) : Bool :=
    let id := byteAt f.payload 0
    s.mdc.op != .config
      || ((s.mail.heatIn.isEmpty || (id != 26 && id != 27)) && (!s.mail.loadEndDsp || id != 27)
        && (!s.mail.loadEndWru || !(decide (96 ≤ id) && decide (id ≤ 119))) && (s.mail.wruIn.isEmpty || id != 28))
  serve (f : Frame) (s : State) : State :=
    match s.mdc.op with
    | .config =>
      let id := byteAt f.payload 0
      let value := calValue id (u32At f.payload 1)
      if calKnown id then
        let stored := calClamp id value
        reply f.type .done (if stored = value then 0 else 1)
          (calWriteEffect id (s.setMdc { s.mdc with cal := s.cal.set id stored }))
      else reply f.type .badValue id s
    | .loading | .active => reply f.type .refusedState s.mdc.op.code s

/-- CAL_READ (R160). -/
def execCalRead (s : State) : Out :=
  .next (takeRequest 0x31 noWait serve s)
where
  serve (f : Frame) (s : State) : State :=
    let id := byteAt f.payload 0
    if calKnown id then answer (.report f.type (byte id) (be32s (s.cal.get id))) s
    else reply f.type .badValue id s

/-! ## RESTART (R161) -/

/-- RESTART (R161): the DONE reply is queued and RESTART is pending. -/
def execRestart (s : State) : Out :=
  .next (takeRequest 0x22 noWait serve s)
where
  serve (f : Frame) (s : State) : State :=
    let s := reply f.type .done 0 s
    s.setMdc { s.mdc with restartPending := true }

/-- LNK at a RESTART (Table 8-3). -/
def Lnk.restarted (l : Lnk) : Lnk :=
  { l with intake := [], replies := [], transmitting := none, waiting := none, restartHold := false }

/-- RTE at a RESTART (Table 5-2). -/
def Rte.restarted (r : Rte) : Rte := { Rte.reset with table := r.table, trim := r.trim }

/-- DSP at a RESTART (Table 1-2, R47). -/
def Dsp.restarted (d : Dsp) : Dsp :=
  { Dsp.reset with heat := d.heat, hotMark := d.hotMark, heatSet := d.heatSet }

/-- WRU at a RESTART (R129, Table 6-4): a flashing lamp restarts in its lit phase, part time beginning again at 0. -/
def Wru.restarted (w : Wru) : Wru :=
  match w.pattern with
  | .flash => { w with phase := .lit, wlamp := true, lampTimer := some (after 0 500) }
  | .off | .steady => w

/-- The hot stop of a WARMUP or RUNNING engine counted at a RESTART (R77): the increment reaches WRU before the RESTART takes
effect (R129; DEDUCED, log entry 28: within this step). -/
def countHotStop (s : State) : State := if s.eng.state.generates then wruTakesIncrement 6 1 s else s

/-- What was published or sent before a RESTART and still waits is taken by its receivers. DESIGN CHOICE (log entry 7), unsafe:
the spec gives the moment of a RESTART and not the fate of what waits then; the model has it taken at that moment, ahead of the
RESTART: the end of LOADING (R155), the records at each place in turn, then what RTE and ENG have sent to WRU. -/
def takeAllWaiting (s : State) : State :=
  let s := wruTakesLoadEnd (dspTakesLoadEnd s)
  let s := heatTakesNext^[s.mail.heatIn.length] s
  let s := rteTakesNext^[s.mail.rteIn.length] s
  let s := engTakesNext^[s.mail.engIn.length] s
  let s := wruTakesNext^[s.mail.wruIn.length] s
  let s := wruTakesNextIncrement^[s.mail.incIn.length] s
  wruTakesNextDistance^[s.mail.kmIn.length] s

/-- A RESTART takes effect (R161): what waits is taken, ENG counts the hot stop of a running engine (R77), every block takes its
RESTART values, and LOADING begins with the straps kept. Records that NTU has not taken are lost with its queue: DEDUCED (log
entry 26), unsafe. -/
def restartEffect (s : State) : State :=
  let s := countHotStop (takeAllWaiting s)
  enterLoading
    { lnk := s.lnk.restarted
      mdc := { s.mdc with partTime := 0, restartPending := false }
      dsp := s.dsp.restarted
      env := Env.reset
      eng := Eng.reset
      rte := s.rte.restarted
      wru := s.wru.restarted
      ntu := Ntu.reset
      mail := Mail.reset
      pending := s.pending }

/-- TRANSMIT_END (R171): the waiting frame follows when the link is READY; after the DONE reply of a RESTART, the RESTART takes
effect (R161). -/
def execTransmitEnd (s : State) : Out :=
  .next (match s.lnk.transmitting with
    | none => s
    | some f =>
      if f.restartReply then restartEffect s
      else
        let l := { s.lnk with transmitting := none }
        s.setLnk (if l.state = .ready then l.promote else l))

/-! ## Unknown types (R173) -/

/-- UNKNOWN_TYPE (R173). -/
def execUnknownType (s : State) : Out :=
  .next (takeFrame (fun f => !knownType f.type) noWait (fun f s => reply f.type .unknownType 0 s) s)

end Sys2Proof.Machine
end

