-- ==== Sys2Proof/Machine/Query.lean ====
section
/-!
DEFINITION. The QUERY reports (09 section 9.3): the content of every topic, from byte 3 (Table 9-7), and the rows that serve
them.
-/
namespace Sys2Proof.Machine

/-- The straps byte of STATUS: RATE1:0 in bits 1–0, MW1:0 in bits 3–2, CALSKIP in bit 4. -/
def strapsByte (x : Straps) : Nat := x.rate.toNat + 4 * x.mw.toNat + 16 * bit x.calskip

/-- STATUS (Table 9-7). -/
def statusReport (s : State) : List Byte :=
  [byte s.mdc.op.code, byte s.dsp.permit.code, byte s.eng.state.code, byte s.eng.attempts, byte s.rte.cursor.code,
   byte (bit s.wru.seeded), byte s.wru.pattern.code, byte (strapsByte s.mdc.straps), byte s.lnk.state.code,
   byte s.lnk.divisor, byte (heatPercent s.cal s.dsp.heat)]
    ++ be32 s.now.toNat ++ be16 s.rte.trim

/-- One counter of WEAR_A and WEAR_B (Table 9-7). -/
def counterReport (k : Counter) : List Byte := be32 k.value ++ [byte k.level.code, byte (bit k.saturated)]

/-- Four counters from `first` on (Table 9-7). -/
def wearReport (first : Nat) (s : State) : List Byte :=
  (List.range 4).flatMap fun c => counterReport (s.wru.counter (first + c))

/-- PREDICT (R148, R149, Table 9-7); the rate is capped at 65535 (R178). -/
def predictReport (s : State) : List Byte :=
  ((List.range 4).flatMap fun c =>
    [byte (s.wru.kmRing c).length] ++ be16 (min 65535 (ringRate (s.wru.kmRing c))) ++ be16 (prediction s.cal s.wru c))
    ++ be16 (s.wru.kmAcc / 1000)

/-- The plan bytes of ROUTE: 0 throughout when none is armed (R178). -/
def planReport : Option Plan → List Byte
  | none => List.replicate 8 0
  | some p =>
    [1, byte p.first, byte p.last, byte p.start, byte p.dir.code, byte p.endAction.code, byte p.wrap, byte p.laps]

/-- ROUTE (R128, Table 9-7); R and D are capped at 65535 (R178). -/
def routeReport (s : State) : List Byte :=
  let l := s.rte.offered s.cal
  planReport s.rte.plan
    ++ [byte s.rte.cursor.code, byte s.rte.index, byte s.rte.dir.code, byte s.rte.laps]
    ++ be32 s.rte.remaining ++ be32 s.rte.raw ++ be16 l.socTarget ++ be16 (quietField l.qd)
    ++ be16 (min 65535 l.r) ++ be16 (min 65535 l.d) ++ be16 l.floorQ

/-- One start-list entry; an absent one reads time 0 and kind 0xFF (R178). -/
def startReport : Option StartEntry → List Byte
  | none => be32 0 ++ [0xFF]
  | some e => be32 e.time.toNat ++ [byte e.kind.code]

/-- Six start-list entries from `first` on (R103, Table 9-7). -/
def startsReport (first : Nat) (s : State) : List Byte :=
  [byte s.eng.starts.length, byte s.cal.startBudget, byte (bit s.eng.budgetMark)]
    ++ (List.range 6).flatMap fun k => startReport (s.eng.starts[first + k]?)

/-- One cache entry: i, j, state with the discard mark in bit 7, rank, attempt count (R178). -/
def entryReport (e : Env) (n : Nat) : List Byte :=
  let x := e.entry n
  let key := match x.key with
    | some k => [byte k.i, byte k.j]
    | none => [0xFF, 0xFF]
  key ++ [byte (x.state.code + 128 * bit x.discard), byte (e.rank n), byte x.attempts]

/-- MAP (R61, Table 9-7). -/
def mapReport (s : State) : List Byte :=
  let pending := match s.env.pendingKey with
    | some k => k.i * 256 + k.j
    | none => 0xFFFF
  [byte s.env.port.code] ++ be16 pending ++ (List.range 8).flatMap (entryReport s.env)

/-- The taking of a QUERY of one topic: ENG prunes first where the report asks for it, then the REPORT is queued (R177). `ready`
says that the blocks that supply the content have taken the end of LOADING (R155; log entry 22). -/
def takeQuery (topic : Nat) (ready : Frame → State → Bool) (before : State → State) (content : State → List Byte)
    (s : State) : State :=
  takeFrame (isTopic topic) (readyChecked ready)
    (serveChecked fun f s =>
      let s := before s
      answer (.report f.type (byte topic) (content s)) s) s

/-- QUERY_STATUS (R177), which shows DSP's heat and WRU's lamp. -/
def execQueryStatus (s : State) : Out :=
  .next (takeQuery 0 (fun f s => wruLoaded f s && !s.mail.loadEndDsp) id statusReport s)
/-- QUERY_WEAR_A (R149). -/
def execQueryWearA (s : State) : Out := .next (takeQuery 1 wruLoaded id (wearReport 0) s)
/-- QUERY_WEAR_B (R149). -/
def execQueryWearB (s : State) : Out := .next (takeQuery 2 wruLoaded id (wearReport 4) s)
/-- QUERY_PREDICT (R148). -/
def execQueryPredict (s : State) : Out := .next (takeQuery 3 wruLoaded id predictReport s)
/-- QUERY_ROUTE (R128). -/
def execQueryRoute (s : State) : Out := .next (takeQuery 4 noWait id routeReport s)
/-- QUERY_STARTS_A (R103, R80). -/
def execQueryStartsA (s : State) : Out := .next (takeQuery 5 noWait prune (startsReport 0) s)
/-- QUERY_STARTS_B (R103, R80). -/
def execQueryStartsB (s : State) : Out := .next (takeQuery 6 noWait prune (startsReport 6) s)
/-- QUERY_MAP (R61). -/
def execQueryMap (s : State) : Out := .next (takeQuery 7 noWait id mapReport s)

/-- QUERY_UNKNOWN_TOPIC (R175). -/
def execQueryUnknownTopic (s : State) : Out :=
  .next (takeFrame isUnknownTopic noWait
    (serveChecked fun f s => reply f.type .badValue (byteAt f.payload 0) s) s)

end Sys2Proof.Machine
end

