-- ==== Sys2Proof/Machine/Dispatch.lean ====
section
/-!
DEFINITION. `exec`: one arm per command, each one direct call of its meaning.
-/
namespace Sys2Proof.Machine

-- The effect of a command on everything but the queue of commands.
def exec (i : Instr) (s : State) : Host.Outcome State Fault Refusal :=
  match i with
  | .powerOn straps => Sys2Proof.Machine.execPowerOn straps s
  | .resetn straps => Sys2Proof.Machine.execResetn straps s
  | .imageReadEnd image => Sys2Proof.Machine.execImageReadEnd image s
  | .heatInit => Sys2Proof.Machine.execHeatInit s
  | .wruLoadingGrade => Sys2Proof.Machine.execWruLoadingGrade s
  | .demand => Sys2Proof.Machine.execDemand s
  | .demandTimerExpiry => Sys2Proof.Machine.execDemandTimerExpiry s
  | .heatUpdate => Sys2Proof.Machine.execHeatUpdate s
  | .rteResult => Sys2Proof.Machine.execRteResult s
  | .engResultEvaluation => Sys2Proof.Machine.execEngResultEvaluation s
  | .crankTimerExpiry => Sys2Proof.Machine.execCrankTimerExpiry s
  | .pauseTimerExpiry => Sys2Proof.Machine.execPauseTimerExpiry s
  | .warmTimerExpiry => Sys2Proof.Machine.execWarmTimerExpiry s
  | .stopHoldExpiry => Sys2Proof.Machine.execStopHoldExpiry s
  | .cooldownTimerExpiry => Sys2Proof.Machine.execCooldownTimerExpiry s
  | .wruResult => Sys2Proof.Machine.execWruResult s
  | .engineIncrement => Sys2Proof.Machine.execEngineIncrement s
  | .kmDistance => Sys2Proof.Machine.execKmDistance s
  | .lampTimerExpiry => Sys2Proof.Machine.execLampTimerExpiry s
  | .fillSuccess cells => Sys2Proof.Machine.execFillSuccess cells s
  | .checkFailure cells => Sys2Proof.Machine.execCheckFailure cells s
  | .start => Sys2Proof.Machine.execStart s
  | .halt => Sys2Proof.Machine.execHalt s
  | .restart => Sys2Proof.Machine.execRestart s
  | .faultClear => Sys2Proof.Machine.execFaultClear s
  | .calWrite => Sys2Proof.Machine.execCalWrite s
  | .calRead => Sys2Proof.Machine.execCalRead s
  | .routeLoad => Sys2Proof.Machine.execRouteLoad s
  | .routeArm => Sys2Proof.Machine.execRouteArm s
  | .routeDepart => Sys2Proof.Machine.execRouteDepart s
  | .routeSync => Sys2Proof.Machine.execRouteSync s
  | .routeClear => Sys2Proof.Machine.execRouteClear s
  | .mapFlush => Sys2Proof.Machine.execMapFlush s
  | .wearSeed => Sys2Proof.Machine.execWearSeed s
  | .wearService => Sys2Proof.Machine.execWearService s
  | .queryStatus => Sys2Proof.Machine.execQueryStatus s
  | .queryWearA => Sys2Proof.Machine.execQueryWearA s
  | .queryWearB => Sys2Proof.Machine.execQueryWearB s
  | .queryPredict => Sys2Proof.Machine.execQueryPredict s
  | .queryRoute => Sys2Proof.Machine.execQueryRoute s
  | .queryStartsA => Sys2Proof.Machine.execQueryStartsA s
  | .queryStartsB => Sys2Proof.Machine.execQueryStartsB s
  | .queryMap => Sys2Proof.Machine.execQueryMap s
  | .unknownType => Sys2Proof.Machine.execUnknownType s
  | .frameReceived last => Sys2Proof.Machine.execFrameReceived last s
  | .gapTimerExpiry => Sys2Proof.Machine.execGapTimerExpiry s
  | .framingFault low => Sys2Proof.Machine.execFramingFault low s
  | .lineBreak low => Sys2Proof.Machine.execLineBreak low s
  | .breakWaitEnd low => Sys2Proof.Machine.execBreakWaitEnd low s
  | .measureStart => Sys2Proof.Machine.execMeasureStart s
  | .measurementEnd n => Sys2Proof.Machine.execMeasurementEnd n s
  | .stageAnswer => Sys2Proof.Machine.execStageAnswer s
  | .stageNotice => Sys2Proof.Machine.execStageNotice s
  | .transmitEnd => Sys2Proof.Machine.execTransmitEnd s
  | .eventRaised source => Sys2Proof.Machine.execEventRaised source s
  | .coalescingTimerExpiry => Sys2Proof.Machine.execCoalescingTimerExpiry s
  | .characterReceived byte => Sys2Proof.Machine.execCharacterReceived byte s
  | .measureFirstRisingEdge => Sys2Proof.Machine.execMeasureFirstRisingEdge s
  | .measurementCountOverflow => Sys2Proof.Machine.execMeasurementCountOverflow s
  | .queryUnknownTopic => Sys2Proof.Machine.execQueryUnknownTopic s

end Sys2Proof.Machine
end

