-- ==== Sys2Proof/Machine/Pins.lean ====
section
/-!
DEFINITION. The output lines that follow from the state, and what the map port sends and receives: MCS and MCK (R51, R52, R72),
the transfers of a fill and of the image read, beat by beat (R52, R63, R68, R153, Tables 3-3 and 7-3), and LTX (R162, R171); with
the characters on LTX and LRX, bit by bit (R163). TPERMIT and WLAMP are fields of State.
-/
namespace Sys2Proof.Machine

/-- An output line between two commands: at a level, or carrying the transfer or the frame that the state holds. -/
inductive Line where
  | low | high | busy
deriving DecidableEq, Repr

/-- MCS: high in IDLE, low through the one transfer of an image read, and in a fill low in each cell read and high between two
(R51, R52, R153); `Env.portBeat` gives it beat by beat. -/
def Env.mcs (e : Env) : Line :=
  match e.port with
  | .idle => .high
  | .imageRead => .low
  | .fill => .busy

/-- MCK: low in IDLE, one period a beat during a transfer (R51, 03 section 3.2). -/
def Env.mck (e : Env) : Line := if e.port = .idle then .low else .busy

/-- LTX: high while no frame is transmitted (R162, R171). -/
def Lnk.ltx (l : Lnk) : Line := if l.transmitting.isSome then .busy else .high

/-! ## Characters (R163) -/

/-- The levels of a character, one a bit time: the start bit, low; eight data bits, least significant first; the stop bit, high. -/
def characterBits (b : Byte) : List Bool := false :: ((List.range 8).map fun k => b.getLsbD k) ++ [true]

/-- The levels that LTX carries, one a bit time, from the start of the frame being transmitted: its characters without idle time
between them; none without a frame. -/
def Lnk.ltxBits (l : Lnk) : List Bool :=
  match l.transmitting with
  | none => []
  | some f => f.bytes.flatMap characterBits

/-- The level of LTX (high is true) this many REFCLK cycles after the start of the frame being transmitted, which is sent at the
divisor of its start (R171); high after its end and without a frame. -/
def Lnk.ltxLevel (l : Lnk) (cycle : Nat) : Bool := l.ltxBits.getD (cycle / bitTime l.txDivisor) true

/-- What the receiver makes of a falling edge on an idle line. -/
inductive Reception where
  | falseStart
  | framingFault
  | character (b : Byte)
deriving DecidableEq, Repr

/-- The byte whose bits, most significant first, are those of a list. -/
def bitsByte (bits : List Bool) : Byte := byte (bits.foldl (fun n b => 2 * n + bit b) 0)

/-- The reception of LRX, whose level is `line`, cycle by cycle from the falling edge: each bit is sampled at its middle; a high
start bit is a false start, which is ignored, and a low stop bit a framing fault, which R165 decides. -/
def receiveCharacter (divisor : Nat) (line : Nat → Bool) : Reception :=
  let sample := fun k => line (k * bitTime divisor + bitTime divisor / 2)
  if sample 0 then .falseStart
  else if sample 9 then .character (bitsByte ((List.range 8).map fun k => sample (8 - k)))
  else .framingFault

/-! ## The map port -/

/-- One transfer on the map port: its first address and how many data bytes it reads (R52, R153). -/
structure MapTransfer where
  address : Nat
  length : Nat
deriving DecidableEq, Repr

/-- The bytes a transfer sends: the read command 0x03 and the 24-bit address (R52). -/
def MapTransfer.command (t : MapTransfer) : List Byte :=
  [0x03, byte (t.address / 65536), byte (t.address / 256), byte t.address]

/-- The bits of a byte, most significant first. -/
def byteBits (b : Byte) : List Bool := (List.range 8).map fun k => b.getLsbD (7 - k)

/-- What MD0 carries, one bit a beat, while the command and the address are sent; MD1 to MD3 are not driven (R52). -/
def MapTransfer.sentBits (t : MapTransfer) : List Bool := t.command.flatMap byteBits

/-- The data lines in use for the MW strap; none with no memory fitted (Table 0-3). -/
def dataLines (mw : BitVec 2) : Nat :=
  match mw.toNat with
  | 0 => 1
  | 1 => 2
  | 2 => 4
  | _ => 0

/-- The beats in which a memory of this many lines drives one byte, the highest line first in each: one bit, a pair or a nibble a
beat, the higher first (R52). -/
def driveByte (lines : Nat) (b : Byte) : List (List Bool) :=
  (List.range (8 / lines)).map fun k => (byteBits b |>.drop (lines * k)).take lines

/-- The byte received from its beats (R52). -/
def receiveByte (beats : List (List Bool)) : Byte := bitsByte beats.flatten

/-- The beats of one transfer (Tables 3-3 and 7-3): 32 for the command and the address, then the data over the lines. -/
def MapTransfer.beats (lines : Nat) (t : MapTransfer) : Nat := 32 + t.length * (8 / lines)

/-- The beats of transfers one after another, with two beats between any two of them (R52). -/
def transfersBeats (lines : Nat) (ts : List MapTransfer) : Nat :=
  (ts.map (MapTransfer.beats lines)).sum + 2 * (ts.length - 1)

/-- The read of the calibration image, as one transfer (R153). -/
def imageTransfer : MapTransfer := { address := 0, length := 514 }

/-- The cell reads of one attempt at a tile, in their order (R52, R63). -/
def tileTransfers (k : Key) : List MapTransfer := (tileAddresses k).map fun a => { address := a, length := 8 }

/-- The transfers that the port makes in its present use: none in IDLE, the image read, or the cell reads of an attempt at the
tile being filled (R51, R52, R63, R153). A failed check ends an attempt before its last cell (R68). -/
def Env.transfers (e : Env) : List MapTransfer :=
  match e.port with
  | .idle => []
  | .imageRead => [imageTransfer]
  | .fill =>
    match e.fillingEntry with
    | none => []
    | some n =>
      match (e.entry n).key with
      | none => []
      | some k => tileTransfers k

/-- One beat of the map port: no transfer, a bit of a command or an address, or data (R52). -/
inductive PortBeat where
  | rest
  | send (b : Bool)
  | receive
deriving DecidableEq, Repr

/-- The level of MCS in a beat: low during a transfer (R52). -/
def PortBeat.mcs : PortBeat → Bool
  | .rest => true
  | .send _ | .receive => false

/-- MCK has a period in a beat: it runs during a transfer (03 section 3.2). -/
def PortBeat.mckRuns : PortBeat → Bool
  | .rest => false
  | .send _ | .receive => true

/-- What ENV drives on MD0 in a beat: the bit it sends; nothing elsewhere. It never drives MD1 to MD3 (R52). -/
def PortBeat.md0 : PortBeat → Option Bool
  | .send b => some b
  | .rest | .receive => none

/-- The beats of one transfer, in their order (Tables 3-3 and 7-3). -/
def MapTransfer.portBeats (lines : Nat) (t : MapTransfer) : List PortBeat :=
  t.sentBits.map .send ++ List.replicate (t.length * (8 / lines)) .receive

/-- The beats of transfers one after another, with two beats between any two of them (R52). -/
def portBeats (lines : Nat) (ts : List MapTransfer) : List PortBeat :=
  ((ts.map (MapTransfer.portBeats lines)).intersperse [.rest, .rest]).flatten

/-- The beats of the present use of the port, for a fill those of its present attempt: two without a transfer where it follows a
cell read at once (R52, R68, R69), then its transfers. -/
def Env.portBeats (mw : BitVec 2) (e : Env) : List PortBeat :=
  (if e.afterRead then [.rest, .rest] else []) ++ Machine.portBeats (dataLines mw) e.transfers

/-- The beat of the map port this many beats after the start of the present use or attempt; no transfer after its end. -/
def Env.portBeat (mw : BitVec 2) (e : Env) (beat : Nat) : PortBeat := (e.portBeats mw).getD beat .rest

end Sys2Proof.Machine
end

