-- ==== Sys2Proof/Safety.lean ====
section
/-!
DEFINITION. The terms in which claims are stated: what every state that the part can reach has, block by block (00 section 7),
and when MDC serves the frame at the head of the intake queue.
-/
namespace Sys2Proof.Machine

/-! ## Serving a request -/

/-- MDC takes the oldest frame `f` of the intake queue at its next chance (R156). -/
structure Serves (s : State) (f : Frame) (rest : List Frame) : Prop where
  intake : s.lnk.intake = f :: rest
  operating : s.mdc.op ≠ .loading
  noRestart : s.mdc.restartPending = false
  room : s.lnk.replies.length < 4

/-- The state once a frame has left the intake queue and its answer stands in the reply queue (R156, R170). -/
def State.answered (s : State) (rest : List Frame) (a : Answer) : State :=
  { s with lnk := { s.lnk with intake := rest, replies := s.lnk.replies ++ [a] } }

/-- The state with records raised by one block at this moment, in the order given (R179). -/
def State.raising (s : State) (src : Block) (records : List (EventKind × Nat × Nat)) : State :=
  { s with
    mail :=
      { s.mail with
        raised := s.mail.raised
          ++ records.map fun r => (src, { kind := r.1, a := r.2.1, b := r.2.2, time := s.mdc.partTime }) } }

/-- The state once ENG has taken the record `x`: pruned, with the SoC of the most recent result, and with the breach mark clear
outside a QUIET zone (R78, R80, R87). -/
def State.resultBegun (s : State) (x : ResultRecord) (rest : List ResultRecord) : State :=
  let starts := s.eng.starts.dropWhile fun e => decide (s.cal.startWindow * 60000 ≤ elapsed s.mdc.partTime e.time)
  { s with
    eng :=
      { s.eng with
        starts
        budgetMark := s.eng.budgetMark && decide (s.cal.startBudget ≤ starts.length)
        lastSoc := x.soc
        breachMark := s.eng.breachMark && decide (s.rte.zone = .quiet) }
    mail := { s.mail with engIn := rest } }

/-- The lamp after a change of a level or of the seeded status that takes WRU from `w` to `v` (R143): the pattern is that of
Table 6-5; an unchanged pattern goes on as it was, and a new one is entered. That the phase is kept outside FLASH is log entry 19. -/
structure LampFollows (w v : Wru) (now : PartTime) : Prop where
  pattern : v.pattern = lampPatternFor v
  unchanged : v.pattern = w.pattern → v.phase = w.phase ∧ v.wlamp = w.wlamp ∧ v.lampTimer = w.lampTimer
  off : v.pattern ≠ w.pattern → v.pattern = .off → v.phase = w.phase ∧ v.wlamp = false ∧ v.lampTimer = none
  steady : v.pattern ≠ w.pattern → v.pattern = .steady → v.phase = w.phase ∧ v.wlamp = true ∧ v.lampTimer = none
  flash : v.pattern ≠ w.pattern → v.pattern = .flash → v.phase = .lit ∧ v.wlamp = true ∧ v.lampTimer = some (now + 500)

/-! ## MDC and DSP (01, 02, 07) -/

/-- Every known id holds a value of its range (R154, R159). -/
def Cal.InRange (c : Cal) : Prop := ∀ id < 128, calKnown id = true → calClamp id (c.get id) = c.get id

/-- What MDC and DSP keep between commands. -/
structure ControlInv (s : State) : Prop where
  /-- R6, R31: TPERMIT is high exactly while the permit is ON. -/
  line : s.dsp.tpermit = true ↔ s.dsp.permit = .on
  /-- R6 to R8: the permit is OFF exactly outside ACTIVE. -/
  permit : s.dsp.permit = .off ↔ s.mdc.op ≠ .active
  /-- R8, R25: outside ACTIVE no interval is measured and nothing is slewed. -/
  idle : s.mdc.op ≠ .active → s.dsp.lastDemand = none ∧ s.dsp.demandTimer = none ∧ s.dsp.genPrev = 0
  /-- Table 1-1. -/
  genPrev : 0 ≤ s.dsp.genPrev ∧ s.dsp.genPrev ≤ 32767
  /-- R45, R47, R48: H within the capacity, once DSP has taken the end of LOADING. -/
  heat : s.mail.loadEndDsp = false → s.dsp.heat ≤ s.cal.heatCap
  /-- R47: H has a value once LOADING has ended. -/
  heatSet : s.mdc.op ≠ .loading → s.mail.loadEndDsp = false → s.dsp.heatSet = true
  /-- R51: the port is in IMAGE_READ exactly during LOADING. -/
  port : s.mdc.op = .loading ↔ s.env.port = .imageRead
  /-- R51, R74: with no map memory fitted the port is never used. -/
  noMap : s.mdc.straps.mw = 3 → s.env.port = .idle
  /-- R154, R159. -/
  ranges : s.cal.InRange
  /-- R43, R157: the set of every ACTIVE dispatch has passed the START checks. -/
  checked : s.mdc.op = .active → s.cal.firstFailure = none
  /-- R155: DSP and WRU have taken the end of LOADING before the part becomes ACTIVE. -/
  loaded : s.mdc.op = .active → s.mail.loadEndDsp = false ∧ s.mail.loadEndWru = false
  /-- R98, R104: outside ACTIVE no result record waits for ENG or RTE, so that the cursor does not move there. -/
  drained : s.mdc.op ≠ .active → s.mail.engIn = [] ∧ s.mail.rteIn = []

/-! ## ENV (03) -/

/-- What the map cache keeps between events (R61 to R75). -/
structure Env.Inv (e : Env) : Prop where
  /-- R61: the ranks are 0 to 7, each once. -/
  ranks : e.order.Perm (List.range 8)
  /-- R75: no two entries have the same key. -/
  keys : ∀ a < 8, ∀ b < 8, (e.entry a).key ≠ none → (e.entry a).key = (e.entry b).key → a = b
  /-- Table 3-6: an entry has a key unless it is EMPTY. -/
  keyed : ∀ a < 8, (e.entry a).key = none ↔ (e.entry a).state = .empty
  /-- R75: at most one entry is FILLING. -/
  oneFill : ∀ a < 8, ∀ b < 8, (e.entry a).state = .filling → (e.entry b).state = .filling → a = b
  /-- R51, R63: the port is in FILL exactly while an entry is FILLING. -/
  port : e.port = .fill ↔ ∃ a < 8, (e.entry a).state = .filling
  /-- Table 3-2: a VALID entry has its four cells. -/
  cells : ∀ a < 8, (e.entry a).state = .valid → (e.entry a).cells.length = 4
  /-- R66, R68: fewer than 3 failed attempts while FILLING or VALID, 3 when DEFECTIVE. -/
  attempts : ∀ a < 8,
    (((e.entry a).state = .filling ∨ (e.entry a).state = .valid) → (e.entry a).attempts < 3)
      ∧ ((e.entry a).state = .defective → (e.entry a).attempts = 3)
  /-- R65, R69: a key is pending only during a fill. -/
  pending : e.pendingKey ≠ none → e.port = .fill
  /-- R52, R68: only an attempt of a fill follows a cell read at once, and every attempt but a fill's first does. -/
  gap : (e.afterRead = true → e.port = .fill)
    ∧ ∀ a < 8, (e.entry a).state = .filling → 0 < (e.entry a).attempts → e.afterRead = true
  /-- R55: 150 possible keys. -/
  keyRange : ∀ a < 8, ∀ k ∈ (e.entry a).key, k.i ≤ 14 ∧ k.j ≤ 9
  /-- R55, for the pending key. -/
  pendingRange : ∀ k ∈ e.pendingKey, k.i ≤ 14 ∧ k.j ≤ 9

/-! ## RTE, and the distance it passes on (05, 06 section 6.7) -/

/-- A loaded segment record passes the checks of R105 as R106 stores it. -/
def Segment.Wf (g : Segment) : Prop :=
  (g.kind = .run → 1 ≤ g.len ∧ g.len ≤ 4095) ∧ (g.kind = .hold → g.len = 0)
    ∧ -12 ≤ g.grade ∧ g.grade ≤ 12 ∧ g.floor ≤ 10000

/-- A plan record passes step 2 of R107. -/
def Plan.Wf (p : Plan) : Prop :=
  p.first ≤ p.last ∧ p.last ≤ 63 ∧ p.first ≤ p.start ∧ p.start ≤ p.last ∧ p.first ≤ p.wrap ∧ p.wrap ≤ p.last

/-- What RTE and the km accumulator keep between events. -/
structure RouteInv (s : State) : Prop where
  /-- R110. -/
  carry : s.rte.carry < 147456
  /-- R120. -/
  trim : 3851 ≤ s.rte.trim ∧ s.rte.trim ≤ 4341
  /-- R105, R106. -/
  table : ∀ k < 64, ∀ g ∈ (s.rte.table[k]?).getD none, g.Wf
  /-- R107. -/
  plan : ∀ p ∈ s.rte.plan, p.Wf
  /-- Table 5-1: a cursor in a plan or DONE has a plan, an IDLE cursor has none. -/
  planned : s.rte.plan = none ↔ s.rte.cursor = .idle
  /-- R106, R107: while the cursor is RUNNING or HOLDING every slot of the plan's range is loaded. -/
  loaded : s.rte.cursor.inPlan = true → ∀ p ∈ s.rte.plan, ∀ k < 64, p.first ≤ k → k ≤ p.last →
    ∃ g, s.rte.table[k]? = some (some g)
  /-- R113: the index lies between the plan's first and last index. -/
  inRange : s.rte.cursor.inPlan = true → ∀ p ∈ s.rte.plan, p.first ≤ s.rte.index ∧ s.rte.index ≤ p.last
  /-- R113: the remaining distance lies between 1 mm and the segment's length. -/
  running : s.rte.cursor = .running →
    (s.rte.segment s.rte.index).kind = .run ∧ 1 ≤ s.rte.remaining
      ∧ s.rte.remaining ≤ (s.rte.segment s.rte.index).len * 10000
  /-- R108. -/
  holding : s.rte.cursor = .holding → (s.rte.segment s.rte.index).kind = .hold ∧ s.rte.remaining = 0
  /-- R123: a lookahead result is held exactly while the cursor is RUNNING or HOLDING. -/
  look : s.rte.look.isSome = s.rte.cursor.inPlan
  /-- R2, R4: the bounds of the records that wait for RTE. -/
  records : ∀ x ∈ s.mail.rteIn, x.v ≤ 1200 ∧ x.dt ≤ 100
  /-- R112, R145: no distance passed on exceeds 3533 mm. -/
  distances : ∀ d ∈ s.mail.kmIn, d ≤ 3533
  /-- R145. -/
  km : s.wru.kmAcc < 1000000

/-! ## WRU (06) -/

/-- The carry unit of a counter; 1 stands for the counters without a residue (R133, R135). -/
def residueUnit (c : Nat) : Nat := if c = 5 then 1000 else if c = 4 ∨ c = 6 then 1 else 10000

/-- What WRU keeps between events. -/
structure WearInv (s : State) : Prop where
  /-- R135. -/
  residues : ∀ c < 8, (s.wru.counter c).residue < residueUnit c
  /-- R134. -/
  values : ∀ c < 8, (s.wru.counter c).value ≤ 4294967295
  /-- R134: the mark stands only at the largest value. -/
  saturated : ∀ c < 8, (s.wru.counter c).saturated = true → (s.wru.counter c).value = 4294967295
  /-- R136, R140: every level is NONE while UNSEEDED. -/
  unseeded : s.wru.seeded = false → ∀ c < 8, (s.wru.counter c).level = .none
  /-- R139 to R141: while SEEDED every level is that of R139, but between the end of LOADING and WRU's taking of it. -/
  graded : s.wru.seeded = true → s.mail.loadEndWru = false →
    ∀ c < 8, (s.wru.counter c).level = gradeOf s.cal c (s.wru.counter c).value
  /-- R146: at most sixteen entries in a ring, and no tally above 65535. -/
  rings : ∀ c < 4, (s.wru.kmRing c).length ≤ 16 ∧ s.wru.kmTally c ≤ 65535
  /-- R143: the pattern is that of Table 6-5. -/
  pattern : s.wru.pattern = lampPatternFor s.wru
  /-- R143, R144: WLAMP is high in STEADY and in the lit phase of FLASH. -/
  lamp : s.wru.wlamp = true ↔ s.wru.pattern = .steady ∨ (s.wru.pattern = .flash ∧ s.wru.phase = .lit)
  /-- R143, R144: the lamp timer runs exactly in FLASH. -/
  timer : s.wru.lampTimer.isSome = true ↔ s.wru.pattern = .flash

/-! ## ENG (04) -/

/-- Each start time is later than the one before it, by modular difference (R81, R83, 00 section 5.4). -/
def startsRise : List StartEntry → Prop
  | [] => True
  | [_] => True
  | x :: y :: rest => (0 < elapsed y.time x.time ∧ elapsed y.time x.time < 2147483648) ∧ startsRise (y :: rest)

/-- What ENG keeps between events. -/
structure Eng.Inv (e : Eng) : Prop where
  /-- R83. -/
  size : e.starts.length ≤ 12
  /-- R83. -/
  order : startsRise e.starts
  /-- R101: the state timer runs exactly in CRANKING, PAUSE, WARMUP and COOLDOWN. -/
  stateTimer : e.stateTimer.isSome = true ↔ e.state = .cranking ∨ e.state = .pause ∨ e.state = .warmup ∨ e.state = .cooldown
  /-- R101: the stop-hold timer runs only in RUNNING. -/
  stopHold : e.stopHold.isSome = true → e.state = .running
  /-- R88, R93, R100: the run-start time stands exactly in WARMUP, RUNNING and COOLDOWN. -/
  runStart : e.runStart.isSome = true ↔ e.state = .warmup ∨ e.state = .running ∨ e.state = .cooldown
  /-- R89, R93: three failures are LOCKOUT, and fewer are not. -/
  attempts : (e.state = .lockout → e.attempts = 3) ∧ (e.state ≠ .lockout → e.attempts < 3)
  /-- R87, R89, R100: the breach mark is clear in STOPPED and LOCKOUT. -/
  breach : e.state = .stopped ∨ e.state = .lockout → e.breachMark = false

/-! ## NTU (09) -/

/-- What NTU keeps between events. -/
structure Ntu.Inv (n : Ntu) : Prop where
  /-- R180, R184. -/
  size : n.queue.length ≤ 16
  /-- R181: six records are due. -/
  six : 6 ≤ n.queue.length → n.due = true
  /-- R182: the due mark is set only while the queue holds a record. -/
  due : n.due = true → n.queue ≠ []
  /-- R181: the timer runs exactly while records wait that are not due. -/
  timer : n.timer.isSome = true ↔ n.queue ≠ [] ∧ n.due = false
  /-- R180, R182: LOST is set only while a NOTICE is due to carry it. -/
  lost : n.lost = true → n.due = true

/-! ## LNK (08) -/

/-- What LNK keeps between events. -/
structure Lnk.Inv (l : Lnk) : Prop where
  /-- R169. -/
  intake : l.intake.length ≤ 4
  /-- R170. -/
  replies : l.replies.length ≤ 4
  /-- R166: a valid frame has a payload of at most 56 bytes. -/
  payloads : ∀ f ∈ l.intake, f.payload.length ≤ 56
  /-- R163, R164, R171. -/
  divisor : l.divisor ≤ 255 ∧ l.txDivisor ≤ 255
  /-- R164: in RATE_UNKNOWN no frame is assembled. -/
  unknown : l.state = .rateUnknown → l.receiver = .hunt
  /-- R167, R168: the gap timer runs exactly while a frame is assembled. -/
  gap : l.gapTimer.isSome = l.isAssembling
  /-- R167, R168: a frame being assembled begins with the lead byte, is not complete, and states a length of at most 56. -/
  frame : ∀ b, l.receiver = .assembling b →
    b.head? = some 0xB5 ∧ frameComplete b = false ∧ b.length ≤ 60 ∧ ∀ n ∈ frameLength b, n ≤ 56
  /-- R171: in READY a frame waits only behind one that is being transmitted. -/
  staging : l.state = .ready → l.waiting.isSome = true → l.transmitting.isSome = true

end Sys2Proof.Machine
end

