-- ==== Sys2Proof/Certificates/Slice0/Obligations.lean ====
section
/-!
DEFINITION. The statements for the provers. A statement whose docstring says 'derived' rests on a choice of the model or on an
inference, which it names.
-/

open Sys2Proof Sys2Proof.Machine

/-! ## One step -/

/-- A step runs the command at the front of the queue on the state with the queue's rest. -/
def Obligations.StepRunsFrontCommand : Prop :=
  ∀ (c : Instr) (rest : List Instr) (s : State),
    s.pending = c :: rest → step s = exec c { s with pending := rest }

/-- Derived (log entry 5, the model's choice): a step on an empty queue is one millisecond of the clock, which R151 counts into
part time and R162 keeps for the gap timer, and nothing else. -/
def Obligations.EmptyQueueTicks : Prop :=
  ∀ s : State, s.pending = [] →
    step s = .next
      { s with
        mdc := { s.mdc with partTime := s.mdc.partTime + 1 }
        lnk := { s.lnk with gapTimer := s.lnk.gapTimer.map fun left => left - 18432 } }

/-! ## Resets and LOADING (07) -/

/-- Derived. R150, R153, R155 with the power-on columns of Tables 1-2, 4-3, 5-2, 6-4 and 8-3 and with R72 and R183: a power-on
and a RESETN leave the same state, whatever the state before, and the reset state is what a power-on leaves. The strap levels of
the reset state, H and the hot mark before the end of LOADING, the lists of what is in flight, the divisor of a transmission when
there is none, and the mark afterRead are the model's own (log entries 1, 2, 4, 33 and 34). -/
def Obligations.PowerOnValues : Prop :=
  (∀ (straps : Straps) (s : State),
      let base : State :=
        { lnk :=
            { state := if straps.rate = 3 then .rateUnknown else .ready
              divisor := if straps.rate = 1 then 1 else if straps.rate = 2 then 0 else 9
              phase := .waitBreak, counting := false, measCount := 0, overflow := false
              receiver := .hunt, awaitRise := false, gapTimer := none
              intake := [], replies := [], transmitting := none
              txDivisor := if straps.rate = 1 then 1 else if straps.rate = 2 then 0 else 9
              waiting := none
              restartHold := false, dropped := false, checkErr := false }
          mdc := { op := .loading, cal := Cal.defaults, straps, partTime := 0, restartPending := false }
          dsp :=
            { permit := .off, tpermit := false, cause := .start, lastDemand := none, demandTimer := none
              genPrev := 0, record := none, heat := 0, hotMark := false, heatSet := false }
          env :=
            { port := .idle
              entries := Vector.replicate 8 { state := .empty, key := none, cells := [], attempts := 0, discard := false }
              order := [0, 1, 2, 3, 4, 5, 6, 7], pendingKey := none, last := none, afterRead := false }
          eng :=
            { state := .stopped, attempts := 0, forced := false, runStart := none, stateTimer := none
              stopHold := none, starts := [], budgetMark := false, breachMark := false, lastSoc := 0 }
          rte :=
            { table := Vector.replicate 64 none, plan := none, cursor := .idle, index := 0, dir := .forward
              laps := 0, remaining := 0, raw := 0, carry := 0, trim := 4096, look := none }
          wru :=
            { counters := Vector.replicate 8 { value := 0, residue := 0, saturated := false, level := .none }
              tally := Vector.replicate 4 0, ring := Vector.replicate 4 [], seeded := false, kmAcc := 0
              pattern := .off, phase := .dark, lampTimer := none, wlamp := false }
          ntu := { queue := [], lost := false, timer := none, due := false }
          mail :=
            { heatIn := [], rteIn := [], engIn := [], wruIn := [], kmIn := [], incIn := [], raised := []
              loadEndDsp := false, loadEndWru := false }
          pending := s.pending }
      let inConfig : State :=
        { base with
          mdc := { base.mdc with op := .config }
          mail := { base.mail with loadEndDsp := true, loadEndWru := true } }
      let t : State :=
        if straps.mw = 3 then inConfig.raising .mdc [(.calDefaulted, 1, 0xFFFF), (.stateChange, 1, 0)]
        else if straps.calskip then inConfig.raising .mdc [(.calDefaulted, 0, 0xFFFF), (.stateChange, 1, 0)]
        else { base with env := { base.env with port := .imageRead } }
      exec (.powerOn straps) s = .next t ∧ exec (.resetn straps) s = .next t)
  ∧ (∀ s : State, s.pending = [] → exec (.powerOn ⟨0, 0, false⟩) s = .next State.reset)

/-- R153 to R155: the end of the image read returns the port to IDLE and the part to CONFIG. A CRC that agrees stores every
known id's slot clamped to its range, with CAL_CLAMPED for each that was clamped, in id order; one that disagrees keeps the
defaults with CAL_DEFAULTED. STATE_CHANGE follows, and nothing else changes. R152, Table 7-2: the image's CRC and its slots,
from the bytes of the map memory, of which one that is not listed reads all ones (R52; log entry 8); the CRC bit by bit is in
FramesStaged and Table 7-4 in CalRequestsServed. -/
def Obligations.ImageReadEnds : Prop :=
  (∀ (m : MapData) (id : Nat),
      let image := fun (a : Nat) => ((m.find? fun c => c.1 == a).map Prod.snd).getD 0xFF
      let b := fun (a : Nat) => (image a).toNat
      let raw := b (4 * id) * 16777216 + b (4 * id + 1) * 65536 + b (4 * id + 2) * 256 + b (4 * id + 3)
      (imageValid m = true ↔ (crc16 ((List.range 512).map image)).toNat = b 0x200 * 256 + b 0x201)
        ∧ imageSlot m id = if 64 ≤ id ∧ id ≤ 88 ∧ 2147483648 ≤ raw then (raw : Int) - 4294967296 else (raw : Int))
  ∧ (∀ (m : MapData) (s : State), s.mdc.op = .loading → s.env.port = .imageRead →
        ∃ t, exec (.imageReadEnd m) s = .next t
          ∧ (∀ id < 128, calKnown id = true →
              t.cal.get id = if imageValid m then calClamp id (imageSlot m id) else calDefault id)
          ∧ t = State.raising
              { s with
                env := { s.env with port := .idle }
                mdc := { s.mdc with op := .config, cal := t.cal }
                mail := { s.mail with loadEndDsp := true, loadEndWru := true } }
              .mdc
              ((if imageValid m then
                  ((List.range 128).filter fun id => calKnown id && decide (calClamp id (imageSlot m id) ≠ imageSlot m id)).map
                    fun id => (.calClamped, 0, id)
                else [(.calDefaulted, 2, 0xFFFF)])
                ++ [(.stateChange, 1, 0)]))

/-- R47: DSP takes the end of LOADING. R141, R142, R143: WRU takes it; UNSEEDED it grades nothing; SEEDED it grades every
counter, raises one WEAR_LEVEL for each level that changed, in id order, and sets the lamp once; that the lamp phase is kept
outside FLASH is log entry 19. -/
def Obligations.LoadingEndTaken : Prop :=
  (∀ s : State, s.mail.loadEndDsp = true →
      exec .heatInit s = .next
        { s with
          mail := { s.mail with loadEndDsp := false }
          dsp :=
            if s.dsp.heatSet then { s.dsp with heat := min s.dsp.heat (s.cal.resCapKj * 10000) }
            else { s.dsp with heat := s.cal.resCapKj * 8000, hotMark := false, heatSet := true } })
  ∧ (∀ s : State, s.mail.loadEndWru = true →
      ∃ t, exec .wruLoadingGrade s = .next t
        ∧ (s.wru.seeded = false → t = { s with mail := { s.mail with loadEndWru := false } })
        ∧ (s.wru.seeded = true →
            let level := fun (c : Nat) => gradeOf s.cal c (s.wru.counter c).value
            (∀ c < 8, t.wru.counter c = { s.wru.counter c with level := level c })
              ∧ (t.wru.tally = s.wru.tally ∧ t.wru.ring = s.wru.ring ∧ t.wru.seeded = true ∧ t.wru.kmAcc = s.wru.kmAcc)
              ∧ LampFollows s.wru t.wru s.mdc.partTime
              ∧ t = State.raising { s with wru := t.wru, mail := { s.mail with loadEndWru := false } } .wru
                  (((List.range 8).filter fun c => decide ((s.wru.counter c).level ≠ level c)).map fun c =>
                    (.wearLevel, c, (level c).code + 256 * (s.wru.counter c).level.code))))

/-! ## START, HALT, RESTART and the calibration requests (07) -/

/-- R157, R158, R7, R73, R123 and Table 9-2: a START in CONFIG whose checks pass makes the part ACTIVE; one whose checks fail is
answered BAD_CAL with the detail of the first failure; one in ACTIVE is refused. A START that passes waits until DSP and WRU
have taken the end of LOADING (R155; log entry 22). The checks of R157, in their order, with the detail of the first that fails.
-/
def Obligations.StartServed : Prop :=
  (∀ c : Cal,
      let v := fun (id : Nat) => (c.get id).toNat
      let below := fun (k l : Nat) =>
        v (96 + 3 * k + l) ≠ 0 ∧ ∃ j < l, v (96 + 3 * k + j) ≠ 0 ∧ v (96 + 3 * k + l) < v (96 + 3 * k + j)
      let bias3 := v 28 = 2 ∧ v 31 ≠ 0
      let biases := v 29 + v 30 + (if v 28 = 3 then v 31 else 0) ≠ 100
      let thresholds := ∃ k < 8, ∃ l < 3, below k l
      (bias3 → c.firstFailure = some 31)
        ∧ (¬bias3 → biases → c.firstFailure = some 29)
        ∧ (¬bias3 → ¬biases → v 49 ≤ v 34 → c.firstFailure = some 34)
        ∧ (¬bias3 → ¬biases → v 34 < v 49 → v 48 < v 49 → c.firstFailure = some 49)
        ∧ (¬bias3 → ¬biases → v 34 < v 49 → v 49 ≤ v 48 → v 50 < v 48 → c.firstFailure = some 48)
        ∧ (¬bias3 → ¬biases → v 34 < v 49 → v 49 ≤ v 48 → v 48 ≤ v 50 →
            (∀ k < 8, ∀ l < 3, below k l → (∀ k' < 8, ∀ l' < 3, 3 * k' + l' < 3 * k + l → ¬below k' l') →
              c.firstFailure = some (96 + 3 * k + l))
            ∧ (¬thresholds → v 18 < v 19 → c.firstFailure = some 19)
            ∧ (¬thresholds → v 19 ≤ v 18 → c.firstFailure = none)))
  ∧ ∀ (s : State) (rest : List Frame), Serves s ⟨0x20, []⟩ rest →
    (s.mdc.op = .active → exec .start s = .next (s.answered rest (.reply 0x20 .refusedState .active 2)))
      ∧ (s.mdc.op = .config → ∀ detail, s.cal.firstFailure = some detail →
          exec .start s = .next (s.answered rest (.reply 0x20 .badCal .config detail)))
      ∧ (s.mdc.op = .config → s.cal.firstFailure = none → s.mail.loadEndDsp = false → s.mail.loadEndWru = false →
          exec .start s = .next
            (State.raising
              { s.answered rest (.reply 0x20 .done .active 0) with
                mdc := { s.mdc with op := .active }
                dsp :=
                  { s.dsp with
                    permit := .waitRelease, tpermit := false, cause := .start, lastDemand := none
                    demandTimer := none, genPrev := 0 }
                env := { s.env with last := none }
                rte :=
                  match s.rte.cursor, s.rte.plan with
                  | .running, some p | .holding, some p => { s.rte with look := some (lookahead s.cal s.rte p) }
                  | _, _ => s.rte }
              .mdc [(.stateChange, 2, 1)]))

/-- R8, R98, R99, R100, R104, R158 and Table 9-2: a HALT in CONFIG is refused. In ACTIVE, once ENG (R98) and RTE (R104; log
entry 22) have taken every record published before it, the part enters CONFIG, the permit is withdrawn, and ENG prunes (R78, R80;
where pruning stops is log entry 13), stops its timers and acts on its state. -/
def Obligations.HaltServed : Prop :=
  ∀ (s : State) (rest : List Frame), Serves s ⟨0x21, []⟩ rest →
    (s.mdc.op = .config → exec .halt s = .next (s.answered rest (.reply 0x21 .refusedState .config 1)))
      ∧ (s.mdc.op = .active → s.mail.engIn = [] → s.mail.rteIn = [] →
          let halted : State := State.raising
            { s.answered rest (.reply 0x21 .done .config 0) with
              mdc := { s.mdc with op := .config }
              dsp :=
                { s.dsp with
                  permit := .off, tpermit := false, lastDemand := none, demandTimer := none, genPrev := 0 }
              eng := { (prune s).eng with stateTimer := none, stopHold := none } }
            .mdc [(.stateChange, 1, 2)]
          exec .halt s = .next
            (match s.eng.state with
            | .stopped | .lockout => halted
            | .cranking | .pause | .cooldown => stopEngine .halted halted
            | .warmup | .running => hotStop .haltHot halted))

/-- R161: RESTART is answered DONE in the state the part is leaving, and becomes pending. R171, R172: at the end of any other
frame's transmission the waiting frame begins its own if the link is READY, and that clears each of DROPPED and CHECK_ERR that
it carries unless a new discard of that kind has occurred since it was staged. R161, R171, R77, R129 and the RESTART columns of
Tables 1-2, 4-3, 5-2, 6-4 and 8-3: the end of the DONE reply's transmission is the moment at which the RESTART takes effect.
Derived: what still waits between blocks at that moment is taken first, in the order of the second half (log entry 7); records
that NTU has not taken are lost (log entry 26); the hot stop of a running engine is counted within the step (log entry 28,
R129). The fields txDivisor and afterRead are the model's own (log entries 33 and 34). -/
def Obligations.RestartAndTransmitEnd : Prop :=
  (∀ (s : State) (rest : List Frame), Serves s ⟨0x22, []⟩ rest →
      exec .restart s = .next
        { s.answered rest (.reply 0x22 .done s.mdc.op 0) with mdc := { s.mdc with restartPending := true } })
  ∧ (∀ (s : State) (f : Staged), s.lnk.transmitting = some f →
      (f.restartReply = false →
        exec .transmitEnd s = .next
          { s with
            lnk :=
              match s.lnk.state, s.lnk.waiting with
              | .ready, some w =>
                { s.lnk with
                  transmitting := some w, txDivisor := s.lnk.divisor, waiting := none
                  dropped := if w.flags.dropped = true ∧ w.newDropped = false then false else s.lnk.dropped
                  checkErr := if w.flags.checkErr = true ∧ w.newCheckErr = false then false else s.lnk.checkErr }
              | _, _ => { s.lnk with transmitting := none } })
        ∧ (f.restartReply = true → s.mail.loadEndDsp = false → s.mail.loadEndWru = false → s.mail.heatIn = [] →
            s.mail.rteIn = [] → s.mail.engIn = [] → s.mail.wruIn = [] → s.mail.incIn = [] → s.mail.kmIn = [] →
            let w : Wru :=
              if s.eng.state = .warmup ∨ s.eng.state = .running then
                match exec .engineIncrement { s with mail := { s.mail with incIn := [(6, 1)] } } with
                | .next t => t.wru
                | _ => s.wru
              else s.wru
            let base : State :=
              { lnk :=
                  { s.lnk with
                    intake := [], replies := [], transmitting := none, waiting := none, restartHold := false }
                mdc := { s.mdc with op := .loading, partTime := 0, restartPending := false }
                dsp :=
                  { permit := .off, tpermit := false, cause := .start, lastDemand := none, demandTimer := none
                    genPrev := 0, record := none
                    heat := s.dsp.heat, hotMark := s.dsp.hotMark, heatSet := s.dsp.heatSet }
                env :=
                  { port := .idle
                    entries :=
                      Vector.replicate 8 { state := .empty, key := none, cells := [], attempts := 0, discard := false }
                    order := [0, 1, 2, 3, 4, 5, 6, 7], pendingKey := none, last := none, afterRead := false }
                eng := Eng.reset
                rte := { Rte.reset with table := s.rte.table, trim := s.rte.trim }
                wru :=
                  if w.pattern = .flash then { w with phase := .lit, wlamp := true, lampTimer := some 500 } else w
                ntu := { queue := [], lost := false, timer := none, due := false }
                mail := Mail.reset
                pending := s.pending }
            let inConfig : State :=
              { base with
                mdc := { base.mdc with op := .config, cal := Cal.defaults }
                mail := { base.mail with loadEndDsp := true, loadEndWru := true } }
            exec .transmitEnd s = .next
              (if s.mdc.straps.mw = 3 then inConfig.raising .mdc [(.calDefaulted, 1, 0xFFFF), (.stateChange, 1, 0)]
              else if s.mdc.straps.calskip then
                inConfig.raising .mdc [(.calDefaulted, 0, 0xFFFF), (.stateChange, 1, 0)]
              else { base with env := { base.env with port := .imageRead } }))
        ∧ (f.restartReply = true →
            let first := fun (c : Instr) => ∀ t, exec c s = .next t → exec .transmitEnd s = exec .transmitEnd t
            (s.mail.loadEndDsp = true → first .heatInit)
              ∧ (s.mail.loadEndDsp = false → s.mail.loadEndWru = true → first .wruLoadingGrade)
              ∧ (s.mail.loadEndDsp = false → s.mail.loadEndWru = false →
                (s.mail.heatIn ≠ [] → first .heatUpdate)
                ∧ (s.mail.heatIn = [] → s.mail.rteIn ≠ [] → first .rteResult)
                ∧ (s.mail.heatIn = [] → s.mail.rteIn = [] → s.mail.engIn ≠ [] → first .engResultEvaluation)
                ∧ (s.mail.heatIn = [] → s.mail.rteIn = [] → s.mail.engIn = [] → s.mail.wruIn ≠ [] → first .wruResult)
                ∧ (s.mail.heatIn = [] → s.mail.rteIn = [] → s.mail.engIn = [] → s.mail.wruIn = [] →
                    s.mail.incIn ≠ [] → first .engineIncrement)
                ∧ (s.mail.heatIn = [] → s.mail.rteIn = [] → s.mail.engIn = [] → s.mail.wruIn = [] →
                    s.mail.incIn = [] → s.mail.kmIn ≠ [] → first .kmDistance))))

/-- R159, R48, R141 and Table 9-2: a CAL_WRITE in ACTIVE is refused; in CONFIG an unknown id is a BAD_VALUE, and a known id
stores the value clamped to its range, answered with detail 0 or 1, H is clamped at a write of id 27, and WRU grades the
counter of a threshold written. A write of id 26 or 27 waits for the heat model (R48), one of id 28 for WRU to have taken
every record (R159), one of id 27 for DSP and one of a threshold for WRU to have taken the end of LOADING (R155; log entry
22). That the lamp phase is kept outside FLASH is log entry 19. R160: CAL_READ answers a known id with the id and the value
the set holds, 32 bits in two's complement, and an unknown id with BAD_VALUE; it changes nothing else. R150, R154, R159,
Table 7-4: the known ids with their ranges and defaults, which values are signed, and the parameter that each name of the
model reads; 02 section 2.1 and 06 section 6.1: the capacity and the thresholds. -/
def Obligations.CalRequestsServed : Prop :=
  (
    let scalars : List (Nat × Int × Int × Int) :=
      [(0, 1, 500, 20), (1, 1, 500, 20), (2, 0, 32767, 2500), (3, 0, 32767, 533), (4, 0, 32767, 2000),
        (5, 0, 32767, 640), (6, 0, 1200, 30), (7, 0, 32767, 960), (8, 0, 32767, 150), (9, 0, 1200, 100),
        (10, 0, 1000, 50), (11, 0, 32767, 1600), (12, 1, 32767, 100), (13, 0, 32767, 300), (14, 20, 1000, 100),
        (16, 0, 32767, 1000), (17, 0, 32767, 500), (18, 0, 256, 230), (19, 0, 256, 192), (20, 5000, 500000, 60000),
        (24, 0, 1, 1), (25, 0, 32767, 1500), (26, 0, 32767, 50), (27, 100, 200000, 20000), (28, 2, 3, 2),
        (29, 0, 100, 60), (30, 0, 100, 40), (31, 0, 100, 0), (32, 0, 5000, 300), (33, 0, 5000, 300),
        (34, 0, 10000, 2000), (35, 500, 10000, 3000), (36, 1000, 60000, 5000), (37, 1000, 600000, 20000),
        (38, 0, 3600000, 60000), (39, 1000, 600000, 10000), (40, 1000, 600000, 15000), (41, 10, 120, 60),
        (42, 1, 12, 8), (43, 0, 65534, 800), (44, 0, 65534, 300), (48, 0, 10000, 5500), (49, 0, 10000, 3000),
        (50, 0, 10000, 8000), (51, 1, 8, 8), (56, 0, 50, 10)]
    let rates : List (Nat × Int × Int × Int) := (List.range 25).map fun k => (64 + k, -500, 500, 5 * (k : Int) - 45)
    let thresholds : List (Nat × Int × Int × Int) := (List.range 24).map fun k => (96 + k, 0, 4294967295, 0)
    let table := scalars ++ rates ++ thresholds
    (∀ id : Nat, calKnown id = true ↔ ∃ r ∈ table, r.1 = id)
      ∧ (∀ r ∈ table,
          calDefault r.1 = r.2.2.2 ∧ Cal.defaults.get r.1 = r.2.2.2
            ∧ ∀ v : Int, calClamp r.1 v = max r.2.1 (min v r.2.2.1))
      ∧ (∀ id raw : Nat, raw < 4294967296 →
          calValue id raw
            = if 64 ≤ id ∧ id ≤ 88 ∧ 2147483648 ≤ raw then (raw : Int) - 4294967296 else (raw : Int)))
  ∧ (∀ c : Cal,
      (∀ id < 128, ∀ (v : Int) (k : Nat), (c.set id v).get k = if k = id then v else c.get k)
        ∧ (∀ r ∈
          [(c.accelDb, 0), (c.brakeDb, 1), (c.motPmax, 2), (c.motSlope, 3), (c.regenPmax, 4), (c.regenSlope, 5),
          (c.vRegenMin, 6), (c.brakeSlope, 7), (c.coastP, 8), (c.vCoastMin, 9), (c.kSoc, 10), (c.genPmax, 11),
          (c.genSlewUp, 12), (c.pWarm, 13), (c.demandTimeout, 14), (c.fbDis, 16), (c.fbChg, 17), (c.derateSvc, 18),
          (c.derateLim, 19), (c.packWh, 20), (c.resFitted, 24), (c.resPmax, 25), (c.resCool, 26), (c.resCapKj, 27),
          (c.axleCount, 28), (c.bias1, 29), (c.bias2, 30), (c.bias3, 31), (c.hystOn, 32), (c.hystOff, 33),
          (c.socHard, 34), (c.crankTimeout, 35), (c.crankPause, 36), (c.warmTime, 37), (c.minRun, 38), (c.stopHoldMs, 39),
          (c.cooldownMs, 40), (c.startWindow, 41), (c.startBudget, 42), (c.minRunDist, 43), (c.prestopDist, 44), (c.socBase, 48),
          (c.socLo, 49), (c.socHi, 50), (c.lookaheadN, 51), (c.noticeDelay, 56)],
          r.1 = (c.get r.2).toNat)
        ∧ c.heatCap = (c.get 27).toNat * 10000
        ∧ ∀ k l : Nat, c.threshold k l = (c.get (96 + 3 * k + l)).toNat)
  ∧ (∀ (s : State) (p : List Byte) (rest : List Frame), Serves s ⟨0x30, p⟩ rest → p.length = 5 →
      let b := fun (k : Nat) => (p.getD k 0).toNat
      let id := b 0
      let value := calValue id (b 1 * 16777216 + b 2 * 65536 + b 3 * 256 + b 4)
      (s.mdc.op = .active → exec .calWrite s = .next (s.answered rest (.reply 0x30 .refusedState .active 2)))
        ∧ (s.mdc.op = .config → calKnown id = false →
            exec .calWrite s = .next (s.answered rest (.reply 0x30 .badValue .config id)))
        ∧ (s.mdc.op = .config → calKnown id = true → (id = 26 ∨ id = 27 → s.mail.heatIn = []) →
            (id = 27 → s.mail.loadEndDsp = false) → (96 ≤ id → s.mail.loadEndWru = false) → (id = 28 → s.mail.wruIn = []) →
            let cal := s.cal.set id (calClamp id value)
            let stored : State :=
              { s.answered rest (.reply 0x30 .done .config (if calClamp id value = value then 0 else 1)) with
                mdc := { s.mdc with cal } }
            ∃ t, exec .calWrite s = .next t
              ∧ (id = 27 → t = { stored with dsp := { s.dsp with heat := min s.dsp.heat cal.heatCap } })
              ∧ (id < 96 → id ≠ 27 → t = stored)
              ∧ (96 ≤ id → s.wru.seeded = false → t = stored)
              ∧ (96 ≤ id → s.wru.seeded = true →
                  let c := (id - 96) / 3
                  let k := s.wru.counter c
                  let level := gradeOf cal c k.value
                  (∀ d < 8, t.wru.counter d = if d = c then { k with level } else s.wru.counter d)
                    ∧ (t.wru.tally = s.wru.tally ∧ t.wru.ring = s.wru.ring ∧ t.wru.seeded = true
                        ∧ t.wru.kmAcc = s.wru.kmAcc)
                    ∧ LampFollows s.wru t.wru s.mdc.partTime
                    ∧ t = State.raising { stored with wru := t.wru } .wru
                        (if level = k.level then [] else [(.wearLevel, c, level.code + 256 * k.level.code)]))))
  ∧ (∀ (s : State) (b : Byte) (rest : List Frame), Serves s ⟨0x31, [b]⟩ rest →
      exec .calRead s = .next (s.answered rest
        (if calKnown b.toNat then .report 0x31 b (be32 (s.cal.get b.toNat % 4294967296).toNat)
        else .reply 0x31 .badValue s.mdc.op b.toNat)))

/-! ## The dispatch (01, 02) -/

/-- R25: a DEMAND taken in CONFIG, once DSP has taken the end of LOADING and the heat model every record (R155, R45; log entry
22), is answered NOT_ACTIVE with zeros, and changes nothing else. R76 and Table 4-2, Table 5-5, R123 and R127: the engine
request, the zone, and the lookahead result and quiet distance that are offered, as every other statement on them uses them. -/
def Obligations.DemandNotActive : Prop :=
  (∀ e : EngState, e.requestsRun = true ↔ e = .cranking ∨ e = .warmup ∨ e = .running ∨ e = .cooldown)
  ∧ (∀ (c : Cal) (r : Rte),
      (r.cursor = .running ∨ r.cursor = .holding →
          ∀ g, r.table[r.index]? = some (some g) → r.zone = g.zone ∧ r.segment r.index = g)
        ∧ (r.cursor = .idle ∨ r.cursor = .done → r.zone = .open_)
        ∧ (∀ l, r.look = some l → r.offered c = l)
        ∧ (r.look = none →
          r.offered c = { socTarget := (c.get 48).toNat, qd := none, r := 0, d := 0, floorQ := 0 })
        ∧ quietField none = 65535 ∧ ∀ mm : Nat, quietField (some mm) = min 65534 (mm / 1000))
  ∧ ∀ (s : State) (p : List Byte) (rest : List Frame), Serves s ⟨0x10, p⟩ rest → p.length = 19 →
    s.mdc.op = .config → s.mail.heatIn = [] → s.mail.loadEndDsp = false →
    let runs := s.eng.state = .cranking ∨ s.eng.state = .warmup ∨ s.eng.state = .running ∨ s.eng.state = .cooldown
    exec .demand s = .next (s.answered rest (.dispatch
      { mode := .notActive
        flags :=
          { tractionLimited := false, regenLimited := false, auxOverload := false, envelopeHeld := false
            envelopeFallback := false, pedalConflict := false, regenFaded := false, resistorDerated := false
            permitWait := false, quietZone := false }
        permit := .off
        engineRun := decide runs
        shares := { mot := 0, gen := 0, batt := 0, res := 0, fric := 0, axle1 := 0, axle2 := 0, axle3 := 0 }
        disEff := 0, chgEff := 0, w := 0, dt := 0
        socTarget := (s.rte.offered s.cal).socTarget
        zone := s.rte.zone
        qd := quietField (s.rte.offered s.cal).qd }))

/-- R3, R4, R9, R10, R12, R13, R22, R24, R26 and R60: a DEMAND taken in ACTIVE measures its interval, settles the permit, starts
the demand timer afresh, asks ENV for the envelope, decides the shares, is answered with their DISPATCH, and publishes the
result record at the four places that take it. Nothing else changes. R2, Tables 1-3 and 9-4: the fields of a DEMAND, with their
bytes and clamps. R57: the health factor. R76 and Table 4-2, Table 5-5: the engine request and the zone. -/
def Obligations.DemandDispatched : Prop :=
  (∀ b0 b1 b2 b3 b4 b5 b6 b7 b8 b9 b10 b11 b12 b13 b14 b15 b16 b17 b18 : Byte,
      let u := fun (hi lo : Byte) => hi.toNat * 256 + lo.toNat
      demandFields [b0, b1, b2, b3, b4, b5, b6, b7, b8, b9, b10, b11, b12, b13, b14, b15, b16, b17, b18] =
        { a := min 1000 (u b0 b1)
          b := min 1000 (u b2 b3)
          v := min 1200 (u b4 b5)
          pAux := min 32767 (u b6 b7)
          soc := min 10000 (u b8 b9)
          temp := if u b10 b11 < 32768 then (u b10 b11 : Int) else (u b10 b11 : Int) - 65536
          disRep := min 32767 (u b12 b13)
          chgRep := min 32767 (u b14 b15)
          eRun := decide (b16 ≠ 0)
          genAvail := min 32767 (u b17 b18) })
  ∧ (∀ (c : Cal) (level : Level),
      healthFactor c false level = 256 ∧ healthFactor c true .none = 256 ∧ healthFactor c true .advisory = 256
        ∧ healthFactor c true .service = (c.get 18).toNat ∧ healthFactor c true .limit = (c.get 19).toNat)
  ∧ ∀ (s : State) (p : List Byte) (rest : List Frame), Serves s ⟨0x10, p⟩ rest → p.length = 19 →
    s.mdc.op = .active → s.mail.heatIn = [] → s.mail.loadEndDsp = false →
    let x := demandFields p
    let dt := match s.dsp.lastDemand with
      | none => 0
      | some t => min 100 (s.mdc.partTime - t).toNat
    let rearmed := s.dsp.permit = .waitRelease ∧ x.a < s.cal.accelDb
    let runs := s.eng.state = .cranking ∨ s.eng.state = .warmup ∨ s.eng.state = .running ∨ s.eng.state = .cooldown
    let zone : Zone :=
      if s.rte.cursor = .running ∨ s.rte.cursor = .holding then (s.rte.segment s.rte.index).zone else .open_
    let settled : Dsp :=
      { s.dsp with
        permit := if rearmed then .on else s.dsp.permit
        tpermit := if rearmed then true else s.dsp.tpermit }
    let look := envLookup s.cal (s.mdc.straps.mw == 3) x.temp x.soc s.env
    let h := healthFactor s.cal s.wru.seeded (s.wru.counter 3).level
    let i : DispatchInput :=
      { fields := x
        permit := settled.permit
        engine := s.eng.state
        zone
        socTarget := (s.rte.offered s.cal).socTarget
        disEff := min x.disRep (look.1.dis * h / 256)
        chgEff := min x.chgRep (look.1.chg * h / 256)
        envFlag := look.2.1
        resistLevel := (s.wru.counter 7).level
        heat := s.dsp.heat
        genPrev := s.dsp.genPrev
        cal := s.cal }
    let d := decideShares i
    let record : ResultRecord :=
      { mode := d.mode, v := x.v, dt, soc := x.soc, eRun := x.eRun, shares := d.shares, flags := d.flags
        w := look.1.stress }
    let msg : DispatchMsg :=
      { mode := d.mode, flags := d.flags, permit := settled.permit, engineRun := decide runs
        shares := d.shares, disEff := i.disEff, chgEff := i.chgEff, w := look.1.stress
        socTarget := i.socTarget, zone := i.zone, qd := quietField (s.rte.offered s.cal).qd, dt }
    let t : State :=
      { s.answered rest (.dispatch msg) with
        dsp :=
          { settled with
            lastDemand := some s.mdc.partTime
            demandTimer := some (s.mdc.partTime + BitVec.ofNat 32 s.cal.demandTimeout)
            genPrev := d.genPrev
            record := some record }
        env := look.2.2
        mail :=
          { s.mail with
            heatIn := [record], rteIn := s.mail.rteIn ++ [record]
            engIn := s.mail.engIn ++ [record], wruIn := s.mail.wruIn ++ [record] } }
    exec .demand s = .next
      (if rearmed then
        t.raising .dsp [(.permitRestored, if s.dsp.cause = .start then 0 else 1, x.v)]
      else t)

/-- R14 to R22: the shares in MOTORING and COASTING, the clamps included, from what a dispatch reads. -/
def Obligations.SplitShares : Prop :=
  ∀ x : DispatchInput, x.fields.b < x.cal.brakeDb →
    let motoring := x.cal.accelDb ≤ x.fields.a
    let v := x.fields.v
    let aux : Int := x.fields.pAux
    let motEnv := min x.cal.motPmax (v * x.cal.motSlope / 64)
    let regenEnv := if v ≥ x.cal.vRegenMin then min x.cal.regenPmax (v * x.cal.regenSlope / 64) else 0
    let trac : Int :=
      if motoring then ((x.fields.a * motEnv / 1000 : Nat) : Int)
      else if v ≥ x.cal.vCoastMin then -((min x.cal.coastP regenEnv : Nat) : Int) else 0
    let permitted := x.engine = .running ∨ x.engine = .warmup
    let pref := max trac 0 + aux - Int.tdiv (((x.fields.soc : Int) - x.socTarget) * x.cal.kSoc) 100
    let capped := max 0 (min pref (min x.cal.genPmax x.fields.genAvail : Nat))
    let warm := if x.engine = .warmup then min capped x.cal.pWarm else capped
    let gen0 := if permitted then min warm (x.genPrev + x.cal.genSlewUp) else 0
    let mot0 := if x.permit = .on then trac else 0
    let limited := mot0 + aux - gen0 > x.disEff ∧ mot0 > 0
    let mot1 := if limited then max 0 (x.disEff + gen0 - aux) else mot0
    let batt1 := mot1 + aux - gen0
    let gen := if batt1 < -x.chgEff then max 0 (mot1 + aux + x.chgEff) else gen0
    let regenCut := gen = 0 ∧ batt1 < -x.chgEff ∧ mot1 + aux < -x.chgEff
    let mot := if regenCut then -(min (-mot1) (x.chgEff + aux)) else mot1
    decideShares x =
      { mode := if motoring then .motoring else .coasting
        shares :=
          { mot, gen, batt := mot + aux - gen, res := 0, fric := 0, axle1 := 0, axle2 := 0, axle3 := 0 }
        flags :=
          { tractionLimited := decide limited
            regenLimited := decide regenCut
            auxOverload := decide (batt1 > x.disEff)
            envelopeHeld := decide (x.envFlag = .held)
            envelopeFallback := decide (x.envFlag = .fallback)
            pedalConflict := false, regenFaded := false, resistorDerated := false
            permitWait := decide (x.permit ≠ .on)
            quietZone := decide (x.zone = .quiet) }
        genPrev := if permitted then gen else 0 }

/-- R14, R33 to R43: the shares in BRAKING. -/
def Obligations.BlendShares : Prop :=
  ∀ x : DispatchInput, x.cal.brakeDb ≤ x.fields.b →
    let v := x.fields.v
    let full := min 32767 (v * x.cal.brakeSlope / 64)
    let req : Int := (x.fields.b * full / 1000 : Nat)
    let cap : Int :=
      if x.permit = .on ∧ v ≥ x.cal.vRegenMin then (min x.cal.regenPmax (v * x.cal.regenSlope / 64) : Nat) else 0
    let aBatt : Int := x.chgEff + x.fields.pAux
    let aRes : Int :=
      if x.cal.resFitted = 0 then 0
      else if x.resistLevel = .limit then 0
      else if x.heat ≤ x.cal.resCapKj * 8000 then x.cal.resPmax
      else (x.cal.resPmax * 5 * (x.cal.resCapKj * 10000 - x.heat) / (x.cal.resCapKj * 10000) : Nat)
    let regen := min req (min cap (aBatt + aRes))
    let res := max 0 (regen - aBatt)
    let fric := req - regen
    let axle1 := fric * x.cal.bias1 / 100
    let axle2 := if x.cal.axleCount = 3 then fric * x.cal.bias2 / 100 else fric - axle1
    decideShares x =
      { mode := .braking
        shares :=
          { mot := -regen, gen := 0, batt := -regen + x.fields.pAux + res, res, fric, axle1, axle2
            axle3 := if x.cal.axleCount = 3 then fric - axle1 - axle2 else 0 }
        flags :=
          { tractionLimited := false
            regenLimited := decide (aBatt + aRes < req ∧ aBatt + aRes < cap)
            auxOverload := decide (-regen + x.fields.pAux + res > x.disEff)
            envelopeHeld := decide (x.envFlag = .held)
            envelopeFallback := decide (x.envFlag = .fallback)
            pedalConflict := decide (x.cal.accelDb ≤ x.fields.a)
            regenFaded := decide (v < x.cal.vRegenMin)
            resistorDerated := decide (x.cal.resFitted = 1 ∧ aRes < x.cal.resPmax)
            permitWait := decide (x.permit ≠ .on)
            quietZone := decide (x.zone = .quiet) }
        genPrev := 0 }

/-- R28: the power balance of every DISPATCH, and the ranges of its shares; in a NOT_ACTIVE one every term is 0. -/
def Obligations.PowerBalance : Prop :=
  ∀ (s t : State) (p : List Byte) (rest : List Frame) (m : DispatchMsg), Serves s ⟨0x10, p⟩ rest → ControlInv s →
    exec .demand s = .next t → t.lnk.replies = s.lnk.replies ++ [.dispatch m] →
    let x := demandFields p
    let aux : Int := if m.mode = .notActive then 0 else x.pAux
    m.shares.mot + aux + m.shares.res = m.shares.gen + m.shares.batt
      ∧ (∀ v ∈ [m.shares.mot, m.shares.gen, m.shares.batt, m.shares.res, m.shares.fric, m.shares.axle1, m.shares.axle2,
          m.shares.axle3], -32768 ≤ v ∧ v ≤ 32767)
      ∧ (0 ≤ m.shares.gen ∧ m.shares.gen ≤ 32767)
      ∧ (-(m.chgEff : Int) ≤ m.shares.batt ∧ m.shares.batt ≤ max (m.disEff : Int) aux)
      ∧ (-(regenEnvelope s.cal x.v : Int) ≤ m.shares.mot ∧ m.shares.mot ≤ motorEnvelope s.cal x.v)
      ∧ (m.mode = .coasting → -m.shares.mot ≤ m.chgEff + x.pAux)
      ∧ (m.mode = .braking →
          -m.shares.mot ≤ m.chgEff + x.pAux + resistorAcceptance s.cal (s.wru.counter 7).level s.dsp.heat)
      ∧ (m.mode = .notActive → m.shares = ⟨0, 0, 0, 0, 0, 0, 0, 0⟩)

/-- R29: battery power within the effective limits, in every DISPATCH of an ACTIVE dispatch. -/
def Obligations.BatteryWithinLimits : Prop :=
  ∀ (s t : State) (p : List Byte) (rest : List Frame) (m : DispatchMsg), Serves s ⟨0x10, p⟩ rest →
    s.mdc.op = .active → exec .demand s = .next t → t.lnk.replies = s.lnk.replies ++ [.dispatch m] →
    -(m.chgEff : Int) ≤ m.shares.batt
      ∧ (m.flags.auxOverload = false → m.shares.batt ≤ m.disEff)
      ∧ (m.flags.auxOverload = true → m.shares.mot ≤ 0)

/-- R30: the bounds of the generator set-point, in every DISPATCH. -/
def Obligations.GeneratorBounds : Prop :=
  ∀ (s t : State) (p : List Byte) (rest : List Frame) (m : DispatchMsg), Serves s ⟨0x10, p⟩ rest →
    exec .demand s = .next t → t.lnk.replies = s.lnk.replies ++ [.dispatch m] →
    (m.mode = .braking → m.shares.gen = 0)
      ∧ (s.eng.state ≠ .warmup → s.eng.state ≠ .running → m.shares.gen = 0)
      ∧ m.shares.gen ≤ (demandFields p).genAvail
      ∧ (s.eng.state = .warmup → m.shares.gen ≤ s.cal.pWarm)

/-- R31: motor power is zero in every DISPATCH produced while the permit is not ON, and after every step TPERMIT is high exactly
while the permit is ON. -/
def Obligations.MotorPermitAgreement : Prop :=
  (∀ (s t : State) (p : List Byte) (rest : List Frame) (m : DispatchMsg), Serves s ⟨0x10, p⟩ rest →
    exec .demand s = .next t → t.lnk.replies = s.lnk.replies ++ [.dispatch m] →
    m.permit ≠ .on → m.shares.mot = 0)
  ∧ (∀ s t : State, (s.dsp.tpermit = true ↔ s.dsp.permit = .on) → step s = .next t →
      (t.dsp.tpermit = true ↔ t.dsp.permit = .on))

/-- R44: the braking balance of every BRAKING record, its axle sum, and the power balance with P_gen = 0. -/
def Obligations.BrakingBalance : Prop :=
  ∀ (s t : State) (p : List Byte) (rest : List Frame) (m : DispatchMsg), Serves s ⟨0x10, p⟩ rest →
    exec .demand s = .next t → t.lnk.replies = s.lnk.replies ++ [.dispatch m] → m.mode = .braking →
    let x := demandFields p
    m.shares.fric - m.shares.mot = (x.b * min 32767 (x.v * s.cal.brakeSlope / 64) / 1000 : Nat)
      ∧ m.shares.axle1 + m.shares.axle2 + m.shares.axle3 = m.shares.fric
      ∧ m.shares.gen = 0
      ∧ m.shares.mot + x.pAux + m.shares.res = m.shares.batt

/-- R59: the effective limits of a dispatch never exceed the limits reported in the same DEMAND. -/
def Obligations.LimitsWithinReports : Prop :=
  ∀ (s t : State) (p : List Byte) (rest : List Frame) (m : DispatchMsg), Serves s ⟨0x10, p⟩ rest →
    exec .demand s = .next t → t.lnk.replies = s.lnk.replies ++ [.dispatch m] →
    m.disEff ≤ u16At p 12 ∧ m.chgEff ≤ u16At p 14

/-- R10 at the expiry: an ON permit becomes WAIT_RELEASE with cause TIMEOUT, TPERMIT falls and DEMAND_TIMEOUT is raised; any
other permit stays; the timer stops in every case. Whether part time has reached the expiry time is read as a modular difference
below half the range (log entry 6). R32, R45, R46, R50: the heat model takes a record. -/
def Obligations.DspEvents : Prop :=
  (∀ (s : State) (e : PartTime), s.dsp.demandTimer = some e → elapsed s.mdc.partTime e < 2147483648 →
      exec .demandTimerExpiry s = .next
        (if s.dsp.permit = .on then
          State.raising
            { s with
              dsp := { s.dsp with demandTimer := none, permit := .waitRelease, tpermit := false, cause := .timeout } }
            .dsp [(.demandTimeout, 0, s.cal.demandTimeout)]
        else { s with dsp := { s.dsp with demandTimer := none } }))
  ∧ (∀ (s : State) (x : ResultRecord) (rest : List ResultRecord), s.mail.heatIn = x :: rest →
      let cap := s.cal.resCapKj * 10000
      let heat := (max 0 (min (cap : Int) (s.dsp.heat + (x.shares.res - s.cal.resCool) * x.dt))).toNat
      let hot := s.dsp.hotMark = false ∧ s.cal.resCapKj * 8000 < heat
      let cool := s.dsp.hotMark = true ∧ heat < s.cal.resCapKj * 6000
      let t : State :=
        { s with
          dsp := { s.dsp with heat, hotMark := if hot then true else if cool then false else s.dsp.hotMark }
          mail := { s.mail with heatIn := rest } }
      exec .heatUpdate s = .next
        (if hot then t.raising .dsp [(.resistorHot, heat * 100 / cap, x.shares.res.toNat)]
        else if cool then t.raising .dsp [(.resistorCool, heat * 100 / cap, x.shares.res.toNat)]
        else t))

/-! ## The envelope and the map cache (03) -/

/-- R55: the key and the fractions of a lookup place the temperature and the state of charge on the axes, the last square taking
the upper edge. R56: the interpolation, whose value lies between the least and the greatest of its four cells, and is the cell's
own value on a corner of the tile; R56, R63: each value of a tile is interpolated from that value of its cells, which the entry
holds in the order (i, j), (i, j + 1), (i + 1, j), (i + 1, j + 1). -/
def Obligations.LookupArithmetic : Prop :=
  (∀ (temp : Int) (soc : Nat), soc ≤ 10000 →
      let k := lookupKey temp soc
      let f := lookupFractions temp soc
      (k.i ≤ 14 ∧ f.1 ≤ 10 ∧ (f.1 = 10 → k.i = 14) ∧ (10 * k.i + f.1 : Int) = max 0 (min (temp + 60) 150))
        ∧ (k.j ≤ 9 ∧ f.2 ≤ 1000 ∧ (f.2 = 1000 → k.j = 9) ∧ 1000 * k.j + f.2 = soc))
  ∧ (∀ (fi fj : Nat) (c00 c01 c10 c11 : MapValues), fi ≤ 10 → fj ≤ 1000 →
      let value := fun (w x y z : Nat) =>
        (w * (10 - fi) * (1000 - fj) + y * fi * (1000 - fj) + x * (10 - fi) * fj + z * fi * fj) / 10000
      (∀ w x y z : Nat, interpolate fi fj w x y z = value w x y z)
        ∧ tileEnvelope fi fj [c00, c01, c10, c11] =
          { dis := value c00.dis c01.dis c10.dis c11.dis
            chg := value c00.chg c01.chg c10.chg c11.chg
            stress := value c00.stress c01.stress c10.stress c11.stress })
  ∧ (∀ i j : Nat,
      tileAddresses ⟨i, j⟩ = [cellAddress i j, cellAddress i (j + 1), cellAddress (i + 1) j, cellAddress (i + 1) (j + 1)])
  ∧ (∀ (fi fj c00 c01 c10 c11 : Nat), fi ≤ 10 → fj ≤ 1000 →
      min (min c00 c01) (min c10 c11) ≤ interpolate fi fj c00 c01 c10 c11
        ∧ interpolate fi fj c00 c01 c10 c11 ≤ max (max c00 c01) (max c10 c11)
        ∧ interpolate 0 0 c00 c01 c10 c11 = c00 ∧ interpolate 0 1000 c00 c01 c10 c11 = c01
        ∧ interpolate 10 0 c00 c01 c10 c11 = c10 ∧ interpolate 10 1000 c00 c01 c10 c11 = c11)

/-- R60 to R62, R64, R65 and R74: what a lookup uses, the flag it gives, and what it does to the cache, in each case of
Table 3-7 and with no map memory fitted. R71: a lookup of the very key whose fill a MAP_FLUSH has marked for discard misses and
becomes the pending key; that R71 is followed there in place of R60 and R65 is log entry 30. The mark afterRead is log entry 34. -/
def Obligations.LookupOutcomes : Prop :=
  ∀ (c : Cal) (temp : Int) (soc : Nat) (e : Env), e.Inv →
    let k := lookupKey temp soc
    let f := lookupFractions temp soc
    let fb : MapValues := { dis := c.fbDis, chg := c.fbChg, stress := 256 }
    let held : MapValues × EnvFlag := match e.last with
      | some v => (v, .held)
      | none => (fb, .fallback)
    envLookup c true temp soc e = (fb, .fallback, e)
      ∧ (∀ n < 8, (e.entry n).key = some k →
          let recent := { e with order := n :: e.order.erase n }
          ((e.entry n).state = .valid →
              let v := tileEnvelope f.1 f.2 (e.entry n).cells
              envLookup c false temp soc e = (v, .fresh, { recent with last := some v }))
            ∧ ((e.entry n).state = .defective →
              envLookup c false temp soc e = (fb, .fallback, { recent with last := some fb }))
            ∧ ((e.entry n).state = .filling → (e.entry n).discard = false →
              envLookup c false temp soc e = (held.1, held.2, recent))
            ∧ ((e.entry n).state = .filling → (e.entry n).discard = true →
              envLookup c false temp soc e = (held.1, held.2, { e with pendingKey := some k })))
      ∧ ((∀ n < 8, (e.entry n).key ≠ some k) →
          (e.port = .fill → envLookup c false temp soc e = (held.1, held.2, { e with pendingKey := some k }))
            ∧ (e.port = .idle → ∃ v < 8,
                ((e.entry v).state = .empty ∨ ∀ n < 8, (e.entry n).state ≠ .empty)
                  ∧ (∀ n < 8, ((e.entry n).state = .empty ∨ (e.entry v).state ≠ .empty) → e.rank n ≤ e.rank v)
                  ∧ envLookup c false temp soc e =
                    (held.1, held.2,
                      { e with
                        port := .fill, afterRead := false
                        entries := e.entries.setIfInBounds v
                          { state := .filling, key := some k, cells := [], attempts := 0, discard := false }
                        order := v :: e.order.erase v })))

/-- R66, R68: the outcomes of a fill attempt. All four cells pass: the entry becomes VALID with their values, or EMPTY and
least recent when it was marked for discard, and the fill ends. A cell fails: the attempt count rises, and the fill ends in
EMPTY when marked for discard, retries below 3, and otherwise ends in DEFECTIVE with MAP_FAULT. R69: at the end of a fill the
port becomes IDLE and the pending key is cleared; unless an entry has that key, its fill starts at once, in the least recent
EMPTY entry, else the least recent one, which becomes FILLING and most recent (R62, R64). Derived: that the pending key is
acted on in the cases that end the fill is log entry 11; that a dropped entry keeps its attempt count and loses its discard
mark is log entry 12. R51, R52, R63, R153 and Tables 3-3 and 7-3: the map port's lines in each port state, the transfers it
makes, what they send on MD0, the bytes received over one, two or four lines, the beats they take, and MCS, MCK and MD0 in
every beat of the present use or attempt, with MCS high for two beats between any two cell reads, the last of one attempt or
fill and the first of the next included (R52, R68; for the next fill log entry 34). R53, R54 and Table 3-5: the address, the
words and the check of a cell, from the bytes of the map memory, of which one that is not listed reads all ones (R52; log
entry 8). -/
def Obligations.FillEvents : Prop :=
  (∀ (m : MapData) (i j : Nat),
      let b := fun (a : Nat) => (((m.find? fun c => c.1 == a).map Prod.snd).getD 0xFF).toNat
      let a := 0x1000 + (i * 11 + j) * 8
      let dis := b a * 256 + b (a + 1)
      let chg := b (a + 2) * 256 + b (a + 3)
      let stress := b (a + 4) * 256 + b (a + 5)
      cellAddress i j = a
        ∧ cellValues m a = { dis, chg, stress }
        ∧ (cellPasses m a = true ↔ b (a + 6) * 256 + b (a + 7) = 65535 - (dis + chg + stress) % 65536))
  ∧ (∀ (m : MapData) (s : State) (n : Nat) (k : Key), n < 8 → s.env.Inv → s.env.port = .fill →
      (s.env.entry n).state = .filling → (s.env.entry n).key = some k →
      let x := s.env.entry n
      let dropped := fun (attempts : Nat) =>
        { s.env with
          entries := s.env.entries.setIfInBounds n { state := .empty, key := none, cells := [], attempts, discard := false }
          order := s.env.order.erase n ++ [n] }
      let put := fun (y : Entry) => { s.env with entries := s.env.entries.setIfInBounds n y }
      ((∀ a ∈ tileAddresses k, cellPasses m a = true) →
          exec (.fillSuccess m) s = .next
            { s with
              env :=
                if x.discard then (dropped x.attempts).endFill
                else (put { x with state := .valid, cells := (tileAddresses k).map (cellValues m) }).endFill })
        ∧ (∀ pos a, (tileAddresses k)[pos]? = some a → cellPasses m a = false →
            (∀ q < pos, ∀ b ∈ (tileAddresses k)[q]?, cellPasses m b = true) →
            exec (.checkFailure m) s = .next
              (if x.discard then { s with env := (dropped (x.attempts + 1)).endFill }
              else if x.attempts + 1 < 3 then { s with env := { put { x with attempts := x.attempts + 1 } with afterRead := true } }
              else
                State.raising { s with env := (put { x with state := .defective, attempts := x.attempts + 1 }).endFill }
                  .env [(.mapFault, pos, k.i * 256 + k.j)])))
  ∧ (∀ e : Env,
      (e.pendingKey = none → e.endFill = { e with port := .idle, afterRead := false })
        ∧ (∀ k, e.pendingKey = some k → (∃ n < 8, (e.entry n).key = some k) →
            e.endFill = { e with port := .idle, afterRead := false, pendingKey := none })
        ∧ (∀ k, e.pendingKey = some k → (∀ n < 8, (e.entry n).key ≠ some k) → e.order.Perm (List.range 8) →
            ∃ v < 8,
              ((e.entry v).state = .empty ∨ ∀ n < 8, (e.entry n).state ≠ .empty)
                ∧ (∀ n < 8, ((e.entry n).state = .empty ∨ (e.entry v).state ≠ .empty) → e.order.idxOf n ≤ e.order.idxOf v)
                ∧ e.endFill =
                  { e with
                    port := .fill, afterRead := true, pendingKey := none
                    entries := e.entries.setIfInBounds v
                      { state := .filling, key := some k, cells := [], attempts := 0, discard := false }
                    order := v :: e.order.erase v }))
  ∧ (∀ e : Env,
      (e.port = .idle → e.mcs = .high ∧ e.mck = .low ∧ e.transfers = [])
        ∧ (e.port = .imageRead → e.mcs = .low ∧ e.mck = .busy ∧ e.transfers = [⟨0, 514⟩])
        ∧ (e.port = .fill → e.mcs = .busy ∧ e.mck = .busy)
        ∧ (∀ (n i j : Nat), e.Inv → e.port = .fill → n < 8 → (e.entry n).state = .filling →
            (e.entry n).key = some ⟨i, j⟩ →
            e.transfers =
              [⟨0x1000 + (i * 11 + j) * 8, 8⟩, ⟨0x1000 + (i * 11 + (j + 1)) * 8, 8⟩,
                ⟨0x1000 + ((i + 1) * 11 + j) * 8, 8⟩, ⟨0x1000 + ((i + 1) * 11 + (j + 1)) * 8, 8⟩]))
  ∧ (PortBeat.rest.mcs = true ∧ PortBeat.rest.mckRuns = false ∧ PortBeat.rest.md0 = none
      ∧ PortBeat.receive.mcs = false ∧ PortBeat.receive.mckRuns = true ∧ PortBeat.receive.md0 = none
      ∧ ∀ b, (PortBeat.send b).mcs = false ∧ (PortBeat.send b).mckRuns = true ∧ (PortBeat.send b).md0 = some b)
  ∧ (∀ (mw : BitVec 2) (e : Env) (beat : Nat), mw ≠ 3 → e.Inv →
      let lines := if mw = 0 then 1 else if mw = 1 then 2 else 4
      let start := if e.afterRead then 2 else 0
      let cell := 32 + 64 / lines
      (e.port = .idle → e.portBeat mw beat = .rest)
        ∧ (e.port = .imageRead →
            (∀ b, (MapTransfer.sentBits ⟨0, 514⟩)[beat]? = some b → e.portBeat mw beat = .send b)
              ∧ (32 ≤ beat → beat < 32 + 4112 / lines → e.portBeat mw beat = .receive)
              ∧ (32 + 4112 / lines ≤ beat → e.portBeat mw beat = .rest))
        ∧ (e.port = .fill →
            (beat < start → e.portBeat mw beat = .rest)
              ∧ (∀ q t r, e.transfers[q]? = some t → beat = start + q * (cell + 2) + r →
                  (∀ b, t.sentBits[r]? = some b → e.portBeat mw beat = .send b)
                    ∧ (32 ≤ r → r < cell → e.portBeat mw beat = .receive)
                    ∧ (r = cell ∨ r = cell + 1 → e.portBeat mw beat = .rest))
              ∧ (start + 4 * cell + 6 ≤ beat → e.portBeat mw beat = .rest)))
  ∧ (∀ (lines : Nat) (ts : List MapTransfer), (portBeats lines ts).length = transfersBeats lines ts)
  ∧ (∀ a n : Nat,
      MapTransfer.sentBits ⟨a, n⟩ =
        [false, false, false, false, false, false, true, true]
          ++ (List.range 24).map fun k => (BitVec.ofNat 24 a).getLsbD (23 - k))
  ∧ (∀ lines ∈ [1, 2, 4],
      (∀ b : Byte,
          (driveByte lines b).length = 8 / lines ∧ (∀ beat ∈ driveByte lines b, beat.length = lines)
            ∧ (driveByte lines b).flatten = (List.range 8).map (fun k => b.getLsbD (7 - k))
            ∧ receiveByte (driveByte lines b) = b)
        ∧ receiveByte (List.replicate (8 / lines) (List.replicate lines true)) = 0xFF)
  ∧ (∀ k : Key,
      ([0, 1, 2] : List (BitVec 2)).map (fun mw => transfersBeats (dataLines mw) (tileTransfers k)) = [390, 262, 198])
  ∧ ([0, 1, 2] : List (BitVec 2)).map (fun mw => transfersBeats (dataLines mw) [imageTransfer]) = [4144, 2088, 1060]

/-- R71, R74: MAP_FLUSH empties every VALID and DEFECTIVE entry, marks a FILLING one for discard, clears the pending key, keeps
the last envelope, moves the emptied entries behind all others, and is answered with their number; with no map memory fitted it
changes nothing. Derived: that an emptied entry keeps its attempt count and has its discard mark clear is log entry 12. -/
def Obligations.MapFlushServed : Prop :=
  ∀ (s : State) (rest : List Frame), Serves s ⟨0x50, []⟩ rest →
    let flushed := fun (n : Nat) => (s.env.entry n).state = .valid ∨ (s.env.entry n).state = .defective
    (s.mdc.straps.mw = 3 → exec .mapFlush s = .next (s.answered rest (.reply 0x50 .done s.mdc.op 0)))
      ∧ (s.mdc.straps.mw ≠ 3 → ∃ env : Env,
          exec .mapFlush s = .next
            { s.answered rest (.reply 0x50 .done s.mdc.op ((List.range 8).countP fun n => decide (flushed n))) with env }
          ∧ env.port = s.env.port ∧ env.afterRead = s.env.afterRead ∧ env.pendingKey = none ∧ env.last = s.env.last
          ∧ env.order =
            s.env.order.filter (fun n => decide (¬flushed n)) ++ s.env.order.filter (fun n => decide (flushed n))
          ∧ ∀ n < 8, env.entry n =
            if flushed n then
              { state := .empty, key := none, cells := [], attempts := (s.env.entry n).attempts, discard := false }
            else if (s.env.entry n).state = .filling then { s.env.entry n with discard := true }
            else s.env.entry n)

/-! ## Route plans (05) -/

/-- R108, R112: entering a segment sets the cursor, recomputes the lookahead for the remaining distance less the excess (log
entry 21), and raises SEGMENT_ENTER, and ROUTE_HOLD for a HOLD segment. R112, R114 to R117: the next segment in travel order is
entered; beyond the range the end action is applied, with its events. Tables 5-3, 5-4 and 5-6: the codes in the events. -/
def Obligations.SegmentMoves : Prop :=
  (∀ (p : Plan) (k excess : Nat) (s : State),
      let g := s.rte.segment k
      let moved : Rte :=
        { s.rte with
          index := k
          cursor := if g.kind = .run then .running else .holding
          remaining := if g.kind = .run then g.len * 10000 - excess else 0
          raw := 0 }
      enterSegment p k excess s =
        State.raising { s with rte := { moved with look := some (lookahead s.cal moved p) } } .rte
          ((.segmentEnter, k,
              (match g.zone with | .open_ => 0 | .quiet => 1 | .charge => 2)
                + 256 * match g.kind with | .run => 0 | .hold => 1) :: if g.kind = .hold then [(.routeHold, k, 0)] else []))
  ∧ (∀ (p : Plan) (excess : Nat) (s : State), p.Wf → p.first ≤ s.rte.index → s.rte.index ≤ p.last →
      let beyond := match s.rte.dir with
        | .forward => s.rte.index = p.last
        | .reverse => s.rte.index = p.first
      let ended := fun (action laps : Nat) =>
        State.raising
          { s with rte := { s.rte with cursor := .done, laps, remaining := 0, raw := 0, look := none } }
          .rte [(.routeDone, action, s.rte.index)]
      let back := match s.rte.dir with
        | .forward => if p.first = p.last then p.last else p.last - 1
        | .reverse => if p.first = p.last then p.first else p.first + 1
      let turned := match s.rte.dir with
        | .forward => Dir.reverse
        | .reverse => Dir.forward
      (¬beyond → s.rte.dir = .forward → moveOn p excess s = enterSegment p (s.rte.index + 1) excess s)
        ∧ (¬beyond → s.rte.dir = .reverse → moveOn p excess s = enterSegment p (s.rte.index - 1) excess s)
        ∧ (beyond → p.endAction = .stop → moveOn p excess s = ended 0 s.rte.laps)
        ∧ (beyond → p.endAction = .turn →
            moveOn p excess s =
              enterSegment p back excess
                (State.raising { s with rte := { s.rte with dir := turned } } .rte
                  [(.routeTurn, if turned = .forward then 0 else 1, back)]))
        ∧ (beyond → p.endAction = .wrap → p.laps = 0 →
            moveOn p excess s = enterSegment p p.wrap excess (s.raising .rte [(.routeWrap, 0, p.wrap)]))
        ∧ (beyond → p.endAction = .wrap → p.laps ≠ 0 → s.rte.laps = 1 → moveOn p excess s = ended 2 0)
        ∧ (beyond → p.endAction = .wrap → p.laps ≠ 0 → 1 < s.rte.laps →
            moveOn p excess s =
              enterSegment p p.wrap excess
                (State.raising { s with rte := { s.rte with laps := s.rte.laps - 1 } } .rte
                  [(.routeWrap, s.rte.laps - 1, p.wrap)])))

/-- R109, R111, R112: RTE takes a record. Whatever the cursor state the distance is passed to WRU and the carry kept; a RUNNING
cursor advances, and moves on with the excess once nothing remains. -/
def Obligations.RteResultTaken : Prop :=
  ∀ (s : State) (x : ResultRecord) (rest : List ResultRecord), s.mail.rteIn = x :: rest →
    let n := x.v * x.dt * s.rte.trim + s.rte.carry
    let d := n / 147456
    let mail : Mail := { s.mail with rteIn := rest, kmIn := s.mail.kmIn ++ [d] }
    (s.rte.cursor ≠ .running →
        exec .rteResult s = .next { s with rte := { s.rte with carry := n - d * 147456 }, mail })
      ∧ (s.rte.cursor = .running → ∀ p, s.rte.plan = some p →
          let advanced : State :=
            { s with
              rte :=
                { s.rte with
                  carry := n - d * 147456
                  raw := s.rte.raw + x.v * x.dt
                  remaining := s.rte.remaining - d
                  look := s.rte.look.map fun l => { l with qd := l.qd.map fun mm => mm - d } }
              mail }
          exec .rteResult s = .next
            (if s.rte.remaining ≤ d then moveOn p (d - s.rte.remaining) advanced else advanced))

/-- R105, R106: ROUTE_LOAD is checked whole before anything is written; a request that passes writes its records and nothing
else. R105 step 2, R106 and Table 9-5: the fields of a record, its checks, and the record stored. -/
def Obligations.RouteLoadServed : Prop :=
  (∀ (before after : List Byte) (kz l1 l0 g f1 f0 : Byte),
      let kind := kz.toNat / 16
      let zone := kz.toNat % 16
      let len := l1.toNat * 256 + l0.toNat
      let grade : Int := if g.toNat < 128 then (g.toNat : Int) else (g.toNat : Int) - 256
      let floor := f1.toNat * 256 + f0.toNat
      segmentAt (before ++ [kz, l1, l0, g, f1, f0] ++ after) before.length
        = if kind ≤ 1 ∧ zone ≤ 2 ∧ -12 ≤ grade ∧ grade ≤ 12 ∧ floor ≤ 10000 ∧ (kind = 0 → 1 ≤ len ∧ len ≤ 4095) then
            some
              { kind := if kind = 0 then .run else .hold
                zone := if zone = 0 then .open_ else if zone = 1 then .quiet else .charge
                len := if kind = 0 then len else 0
                grade, floor }
          else none)
  ∧ ∀ (s : State) (p : List Byte) (rest : List Frame), Serves s ⟨0x40, p⟩ rest →
    let first := (p.getD 0 0).toNat
    let count := (p.getD 1 0).toNat
    p.length = 2 + 6 * count → 2 ≤ p.length →
    let inPlan := fun (k : Nat) => (s.rte.cursor = .running ∨ s.rte.cursor = .holding) ∧ ∃ q, s.rte.plan = some q ∧ q.first ≤ k ∧ k ≤ q.last
    let refuse := fun (st : Status) (detail : Nat) => s.answered rest (.reply 0x40 st s.mdc.op detail)
    let placed := 1 ≤ count ∧ count ≤ 8 ∧ first + count - 1 ≤ 63
    (¬placed → exec .routeLoad s = .next (refuse .badValue 0xFFFF))
      ∧ (placed → ∀ k < count, segmentAt p (2 + 6 * k) = none → (∀ j < k, segmentAt p (2 + 6 * j) ≠ none) →
          exec .routeLoad s = .next (refuse .badValue (first + k)))
      ∧ (placed → (∀ k < count, segmentAt p (2 + 6 * k) ≠ none) → ∀ k < count, inPlan (first + k) →
          (∀ j < k, ¬inPlan (first + j)) → exec .routeLoad s = .next (refuse .refusedState (first + k)))
      ∧ (placed → (∀ k < count, segmentAt p (2 + 6 * k) ≠ none) → (∀ k < count, ¬inPlan (first + k)) →
          ∃ table : Vector (Option Segment) 64,
            exec .routeLoad s = .next
              { s.answered rest (.reply 0x40 .done s.mdc.op count) with rte := { s.rte with table } }
            ∧ (∀ k < count, table[first + k]? = some (segmentAt p (2 + 6 * k)))
            ∧ ∀ k < 64, (k < first ∨ first + count ≤ k) → table[k]? = s.rte.table[k]?)

/-- R107, R108: ROUTE_ARM is refused while a plan is driven, checked, and otherwise arms the plan and enters its start segment;
and the fields of a plan as step 2 of R107 checks and records them. -/
def Obligations.RouteArmServed : Prop :=
  (∀ (s : State) (p : List Byte) (rest : List Frame), Serves s ⟨0x41, p⟩ rest → p.length = 7 →
      let refuse := fun (st : Status) (detail : Nat) => s.answered rest (.reply 0x41 st s.mdc.op detail)
      let driven := s.rte.cursor = .running ∨ s.rte.cursor = .holding
      let loaded := fun (k : Nat) => ∃ g, s.rte.table[k]? = some (some g)
      (driven → exec .routeArm s = .next (refuse .refusedState s.rte.cursor.code))
        ∧ (¬driven → planOf p = none → exec .routeArm s = .next (refuse .badValue 0xFFFF))
        ∧ (¬driven → ∀ q, planOf p = some q →
            (∀ k, q.first ≤ k → k ≤ q.last → s.rte.table[k]? = some none → (∀ j, q.first ≤ j → j < k → loaded j) →
              exec .routeArm s = .next (refuse .badValue k))
            ∧ ((∀ k, q.first ≤ k → k ≤ q.last → loaded k) →
              exec .routeArm s = .next
                (enterSegment q q.start 0
                  { s.answered rest (.reply 0x41 .done s.mdc.op q.start) with
                    rte := { s.rte with plan := some q, dir := q.dir, laps := q.laps } }))))
  ∧ (∀ b0 b1 b2 b3 b4 b5 b6 : Byte,
      let p := [b0, b1, b2, b3, b4, b5, b6]
      let first := b0.toNat
      let last := b1.toNat
      let start := b2.toNat
      let wrap := b5.toNat
      let ok := first ≤ last ∧ last ≤ 63 ∧ first ≤ start ∧ start ≤ last ∧ b3.toNat ≤ 1 ∧ b4.toNat ≤ 2
        ∧ (b4.toNat = 2 → first ≤ wrap ∧ wrap ≤ last)
      (¬ok → planOf p = none)
        ∧ (ok → planOf p = some
            { first, last, start
              dir := if b3 = 0 then .forward else .reverse
              endAction := if b4 = 0 then .stop else if b4 = 1 then .turn else .wrap
              wrap := if b4 = 2 then wrap else first
              laps := b6.toNat }))

/-- R118: ROUTE_DEPART moves a HOLDING cursor on without an excess, and is refused in every other cursor state. R122:
ROUTE_CLEAR clears the plan and the cursor in every cursor state; the table, the trim and the carry are kept, and no event is
raised. -/
def Obligations.RouteDepartAndClear : Prop :=
  (∀ (s : State) (rest : List Frame), Serves s ⟨0x42, []⟩ rest →
      (s.rte.cursor ≠ .holding →
          exec .routeDepart s = .next (s.answered rest (.reply 0x42 .refusedState s.mdc.op s.rte.cursor.code)))
        ∧ (s.rte.cursor = .holding → ∀ p, s.rte.plan = some p →
            let t := moveOn p 0 s
            exec .routeDepart s = .next
              { t with
                lnk :=
                  { s.lnk with
                    intake := rest
                    replies := s.lnk.replies
                      ++ [.reply 0x42 .done s.mdc.op (if t.rte.cursor = .done then 0xFFFF else t.rte.index)] } }))
  ∧ (∀ (s : State) (rest : List Frame), Serves s ⟨0x44, []⟩ rest →
      exec .routeClear s = .next
        { s.answered rest (.reply 0x44 .done s.mdc.op s.rte.cursor.code) with
          rte :=
            { s.rte with
              plan := none, cursor := .idle, index := 0, dir := .forward, laps := 0, remaining := 0, raw := 0
              look := none } })

/-- R119, R120: ROUTE_SYNC is refused without a driven plan, checks its index, makes the trim test, and enters the segment in
the cursor's direction. -/
def Obligations.RouteSyncServed : Prop :=
  ∀ (s : State) (b flag : Byte) (rest : List Frame), Serves s ⟨0x43, [b, flag]⟩ rest →
    let k := b.toNat
    let refuse := fun (st : Status) (detail : Nat) => s.answered rest (.reply 0x43 st s.mdc.op detail)
    let done := fun (detail : Nat) => s.answered rest (.reply 0x43 .done s.mdc.op detail)
    let driven := s.rte.cursor = .running ∨ s.rte.cursor = .holding
    (¬driven → exec .routeSync s = .next (refuse .refusedState s.rte.cursor.code))
      ∧ (driven → ∀ p, s.rte.plan = some p →
          let tried := flag ≠ 0 ∧ s.rte.cursor = .running
            ∧ match s.rte.dir with
              | .forward => s.rte.index < p.last ∧ k = s.rte.index + 1
              | .reverse => p.first < s.rte.index ∧ k + 1 = s.rte.index
          let tau := (s.rte.segment s.rte.index).len * 10000 * 147456 / s.rte.raw
          (k < p.first ∨ p.last < k → exec .routeSync s = .next (refuse .badValue 0xFFFF))
            ∧ (p.first ≤ k → k ≤ p.last →
                (¬tried → exec .routeSync s = .next (enterSegment p k 0 (done 0)))
                ∧ (tried → s.rte.raw = 0 →
                    exec .routeSync s = .next (enterSegment p k 0 ((done 2).raising .rte [(.trimRejected, 0, 0)])))
                ∧ (tried → s.rte.raw ≠ 0 → (tau < 3851 ∨ 4341 < tau) →
                    exec .routeSync s = .next
                      (enterSegment p k 0 ((done 2).raising .rte [(.trimRejected, 2, min 65535 tau)])))
                ∧ (tried → s.rte.raw ≠ 0 → 3851 ≤ tau → tau ≤ 4341 →
                    exec .routeSync s = .next
                      (enterSegment p k 0 { done 1 with rte := { s.rte with trim := tau } }))))

/-- R124 to R127: the lookahead. The scan is a walk from the cursor, in its direction and with its laps: each further segment is
the next in travel order, or the one the end action gives beyond the range, and it ends after lookahead_n further segments or
where a STOP or the last lap ends it. R is the least and D the greatest number that the sums of R125 allow; floor_q is that of
the first QUIET segment. A CHARGE segment aims at soc_hi, any other at soc_base + R − D, raised to floor_q and clamped to soc_lo
and soc_hi (where soc_lo exceeds soc_hi the target is a free value, log entry 31). The quiet distance is 0 in a QUIET segment,
none where the scan holds none, and otherwise what remains of the current segment and the lengths up to the first QUIET one. -/
def Obligations.LookaheadSound : Prop :=
  ∀ (c : Cal) (r : Rte) (p : Plan),
    let xs := scan c r p
    let l := lookahead c r p
    let here := (r.segment r.index).zone
    let quiet := fun (x : Scanned) => decide (x.seg.zone = .quiet)
    let follow := fun (q : Nat × Dir × Nat) =>
      match q.2.1 with
      | .forward =>
        if q.1 < p.last then some (q.1 + 1, Dir.forward, q.2.2)
        else match p.endAction with
          | .stop => none
          | .turn => some (if p.first = p.last then p.first else p.last - 1, Dir.reverse, q.2.2)
          | .wrap =>
            if p.laps = 0 then some (p.wrap, Dir.forward, q.2.2)
            else if q.2.2 ≤ 1 then none
            else some (p.wrap, Dir.forward, q.2.2 - 1)
      | .reverse =>
        if p.first < q.1 then some (q.1 - 1, Dir.reverse, q.2.2)
        else match p.endAction with
          | .stop => none
          | .turn => some (if p.first = p.last then p.first else p.first + 1, Dir.forward, q.2.2)
          | .wrap =>
            if p.laps = 0 then some (p.wrap, Dir.reverse, q.2.2)
            else if q.2.2 ≤ 1 then none
            else some (p.wrap, Dir.reverse, q.2.2 - 1)
    let quietEnergy := (((xs.dropWhile fun x => !quiet x).takeWhile quiet).map fun x =>
      (x.seg.len : Int) * max 0 (c.get (76 + x.grade).toNat)).sum
    let descentEnergy := (xs.map fun x => (x.seg.len : Int) * max 0 (-c.get (76 + x.grade).toNat)).sum
    (∃ walk : List (Nat × Dir × Nat),
        walk.head? = some (r.index, r.dir, r.laps)
          ∧ (∀ n, n + 1 < walk.length → walk[n + 1]? = walk[n]?.bind follow)
          ∧ walk.length ≤ c.lookaheadN + 1
          ∧ (walk.length ≤ c.lookaheadN → walk.getLast?.bind follow = none)
          ∧ xs = walk.map fun q =>
              { seg := r.segment q.1
                grade := if q.2.1 = .forward then (r.segment q.1).grade else -(r.segment q.1).grade })
      ∧ (0 < c.packWh → ∀ n : Nat,
          (l.r ≤ n ↔ quietEnergy * 10000 ≤ n * c.packWh) ∧ (n ≤ l.d ↔ (n * c.packWh : Int) ≤ descentEnergy * 10000))
      ∧ l.floorQ = ((xs.find? quiet).map fun x => x.seg.floor).getD 0
      ∧ (here = .charge → l.socTarget = c.socHi)
      ∧ (here ≠ .charge → c.socLo ≤ c.socHi →
          (l.socTarget : Int) = max (c.socLo : Int) (min (c.socHi : Int) (max ((c.socBase : Int) + l.r - l.d) l.floorQ)))
      ∧ l.qd =
          (if here = .quiet then some 0
          else if ∀ x ∈ xs, x.seg.zone ≠ .quiet then none
          else some (r.remaining + ((xs.tail.takeWhile fun x => !quiet x).map fun x => x.seg.len * 10000).sum))
      ∧ ((∀ x ∈ xs, x.seg.zone ≠ .quiet) → l.r = 0 ∧ l.floorQ = 0)

/-! ## Engine scheduling (04) -/

/-- R81, R86, R87: the steps of a start, in their order. R99, R100: entry into STOPPED raises ENGINE_STOP with its cause and the
run time in seconds; a hot stop sends a HOTSTOP increment of 1 as well. R88 step 2 and R93: the engine catches, and the engine
stalls. Tables 4-4 and 4-5: the codes of the start kinds and of the stop causes. Derived: the modular difference in a start time
and in ENGINE_RUNNING is log entry 13; with an empty start list the time in ENGINE_RUNNING is a free value, log entry 35. -/
def Obligations.EngineSteps : Prop :=
  (∀ (kind : StartKind) (s : State),
      let kept := if 12 ≤ s.eng.starts.length then s.eng.starts.drop 1 else s.eng.starts
      let time := match s.eng.starts.getLast? with
        | none => s.mdc.partTime
        | some e =>
          if 0 < elapsed s.mdc.partTime e.time ∧ elapsed s.mdc.partTime e.time < 2147483648 then s.mdc.partTime
          else e.time + 1
      let starts : List StartEntry := kept ++ [⟨time, kind⟩]
      let weight := if kind = .forcedOver then 3 else 1
      let breach := s.rte.zone = .quiet ∧ s.eng.breachMark = false
      startEngine kind s =
        State.raising
          { s with
            eng :=
              { s.eng with
                state := .cranking
                stateTimer := some (s.mdc.partTime + BitVec.ofNat 32 s.cal.crankTimeout)
                starts
                runStart := none
                breachMark := if breach then true else s.eng.breachMark }
            mail := { s.mail with incIn := s.mail.incIn ++ [(4, weight)] } }
          .eng
          ((.engineStart, match kind with | .normal => 0 | .forced => 1 | .forcedOver => 2 | .retry => 3, starts.length) :: if breach then [(.quietBreach, 0, s.eng.lastSoc)] else []))
  ∧ (∀ (cause : StopCause) (s : State),
      let seconds := match s.eng.runStart with
        | none => 0
        | some r => min 65535 ((s.mdc.partTime - r).toNat / 1000)
      let stopped : State := State.raising
        { s with
          eng :=
            { s.eng with
              state := .stopped, stateTimer := none, stopHold := none, runStart := none, breachMark := false } }
        .eng
          [(.engineStop,
            match cause with
            | .cooldownEnd => 0 | .quietZone => 1 | .haltHot => 2 | .halted => 3 | .crankAbandoned => 4 | .engineOff => 5
            | .faultCleared => 6,
            seconds)]
      stopEngine cause s = stopped
        ∧ hotStop cause s = { stopped with mail := { stopped.mail with incIn := s.mail.incIn ++ [(6, 1)] } })
  ∧ (∀ (forced : Bool) (s : State),
      (engineCaught s =
        State.raising
          { s with
            eng :=
              { s.eng with
                state := .warmup
                stateTimer := some (s.mdc.partTime + BitVec.ofNat 32 s.cal.warmTime)
                runStart := some s.mdc.partTime
                forced := false } }
          .eng
          [(.engineRunning, s.eng.attempts,
            match s.eng.starts.getLast? with
            | none => min 65535 (Config.sinceStart s.mdc.partTime.toNat)
            | some e => min 65535 (s.mdc.partTime - e.time).toNat)])
        ∧ (∀ r, s.eng.runStart = some r →
            let stalled : Eng :=
              { s.eng with stopHold := none, runStart := none, attempts := s.eng.attempts + 1 }
            let event : EventKind × Nat × Nat := (.engineStall, s.eng.attempts + 1, min 65535 (s.mdc.partTime - r).toNat)
            stall forced s =
              if 3 ≤ s.eng.attempts + 1 then
                State.raising
                  { s with
                    eng := { stalled with state := .lockout, stateTimer := none, forced := false, breachMark := false } }
                  .eng [event, (.engineLockout, 1, s.eng.starts.length)]
              else
                State.raising
                  { s with
                    eng :=
                      { stalled with
                        state := .pause
                        stateTimer := some (s.mdc.partTime + BitVec.ofNat 32 s.cal.crankPause)
                        forced } }
                  .eng [event]))

/-- R78 to R80, R82, R85, R91, R127: a result taken in STOPPED starts the engine, or is refused by the budget or by the quiet
block; one taken in LOCKOUT does no more than prune. That pruning stops at the first entry that has not aged is log entry 13. -/
def Obligations.StoppedResult : Prop :=
  ∀ (s : State) (x : ResultRecord) (rest : List ResultRecord), s.mail.engIn = x :: rest →
    let b := s.resultBegun x rest
    let qd := (s.rte.look.bind Lookahead.qd).map fun mm => min 65534 (mm / 1000)
    let within := fun (limit : Nat) => qd.any fun m => decide (m < limit)
    let forced := x.soc < s.cal.socHard
    let want := forced ∨ s.rte.zone = .charge ∨ (x.soc : Int) < (s.rte.offered s.cal).socTarget - s.cal.hystOn
      ∨ x.flags.tractionLimited = true
    let block := s.rte.zone = .quiet ∨ within s.cal.minRunDist = true
    let reachedBudget := s.cal.startBudget ≤ b.eng.starts.length
    (s.eng.state = .lockout → exec .engResultEvaluation s = .next b)
      ∧ (s.eng.state = .stopped →
          (forced →
            exec .engResultEvaluation s = .next
              (startEngine (if reachedBudget then .forcedOver else .forced) { b with eng := { b.eng with forced := true } }))
          ∧ (¬want ∨ (¬forced ∧ block) → exec .engResultEvaluation s = .next b)
          ∧ (¬forced → want → ¬block → ¬reachedBudget →
            exec .engResultEvaluation s = .next (startEngine .normal { b with eng := { b.eng with forced := false } }))
          ∧ (¬forced → want → ¬block → reachedBudget →
            exec .engResultEvaluation s = .next
              (if b.eng.budgetMark then b
              else
                State.raising { b with eng := { b.eng with budgetMark := true } } .eng
                  [(.budgetExhausted, b.eng.starts.length,
                    match b.eng.starts.head? with
                    | none => 0
                    | some e => (s.cal.startWindow * 60000 - elapsed s.mdc.partTime e.time + 999) / 1000)])))

/-- R78, R80, R87, R88, R90: a result taken in CRANKING or PAUSE. That pruning stops at the first entry that has not aged is log
entry 13. -/
def Obligations.CrankingResult : Prop :=
  ∀ (s : State) (x : ResultRecord) (rest : List ResultRecord), s.mail.engIn = x :: rest →
    let b := s.resultBegun x rest
    let forcedMark := s.eng.forced || decide (x.soc < s.cal.socHard)
    let m : State := { b with eng := { b.eng with forced := forcedMark } }
    (s.eng.state = .cranking →
        exec .engResultEvaluation s = .next
          (if x.eRun then engineCaught m
          else if s.rte.zone = .quiet ∧ forcedMark = false then stopEngine .crankAbandoned m
          else if s.rte.zone = .quiet ∧ b.eng.breachMark = false then
            State.raising { m with eng := { m.eng with breachMark := true } } .eng [(.quietBreach, 1, x.soc)]
          else m))
      ∧ (s.eng.state = .pause → exec .engResultEvaluation s = .next (if x.eRun then engineCaught m else m))

/-- R78 to R80, R92 to R97, R127: a result taken in WARMUP, RUNNING or COOLDOWN, the first case that applies. That pruning stops at
the first entry that has not aged is log entry 13. -/
def Obligations.RunningResult : Prop :=
  ∀ (s : State) (x : ResultRecord) (rest : List ResultRecord), s.mail.engIn = x :: rest →
    let b := s.resultBegun x rest
    let qd := (s.rte.look.bind Lookahead.qd).map fun mm => min 65534 (mm / 1000)
    let within := fun (limit : Nat) => qd.any fun m => decide (m < limit)
    let forced := x.soc < s.cal.socHard
    let quiet := s.rte.zone = .quiet
    let target : Int := (s.rte.offered s.cal).socTarget
    let want := forced ∨ s.rte.zone = .charge ∨ (x.soc : Int) < target - s.cal.hystOn ∨ x.flags.tractionLimited = true
    let block := quiet ∨ within s.cal.minRunDist = true
    let near := within s.cal.prestopDist = true
    let eligible := (x.soc : Int) > target + s.cal.hystOff ∧ x.flags.tractionLimited = false ∧ s.rte.zone ≠ .charge
      ∧ (s.wru.counter 4).level ≠ .limit ∧ (∃ r, s.eng.runStart = some r ∧ s.cal.minRun ≤ elapsed s.mdc.partTime r)
      ∧ ¬s.cal.startBudget ≤ b.eng.starts.length
    let breached := fun (t : State) =>
      if t.eng.breachMark then t
      else State.raising { t with eng := { t.eng with breachMark := true } } .eng [(.quietBreach, 1, x.soc)]
    let unheld : State := { b with eng := { b.eng with stopHold := none } }
    let resumed : State := { b with eng := { b.eng with state := .running, stateTimer := none, stopHold := none } }
    let answers := fun (t : State) => exec .engResultEvaluation s = .next t
    (s.eng.state = .warmup →
        (x.eRun = false → answers (stall (decide forced) b))
        ∧ (x.eRun = true → quiet → ¬forced → answers (hotStop .quietZone b))
        ∧ (x.eRun = true → quiet → forced → answers (breached b))
        ∧ (x.eRun = true → ¬quiet → answers b))
      ∧ (s.eng.state = .running →
        (x.eRun = false → answers (stall (decide forced) b))
        ∧ (x.eRun = true → quiet → ¬forced → answers (hotStop .quietZone b))
        ∧ (x.eRun = true → quiet → forced → answers (breached unheld))
        ∧ (x.eRun = true → ¬quiet → near → ¬forced →
            answers
              { b with
                eng :=
                  { b.eng with
                    state := .cooldown, stopHold := none
                    stateTimer := some (s.mdc.partTime + BitVec.ofNat 32 s.cal.cooldownMs) } })
        ∧ (x.eRun = true → ¬quiet → ¬(near ∧ ¬forced) → eligible →
            answers
              { b with
                eng :=
                  { b.eng with
                    stopHold :=
                      if s.eng.stopHold.isSome then s.eng.stopHold
                      else some (s.mdc.partTime + BitVec.ofNat 32 s.cal.stopHoldMs) } })
        ∧ (x.eRun = true → ¬quiet → ¬(near ∧ ¬forced) → ¬eligible → answers unheld))
      ∧ (s.eng.state = .cooldown →
        (x.eRun = false → answers (stopEngine .engineOff b))
        ∧ (x.eRun = true → forced → ¬quiet → answers resumed)
        ∧ (x.eRun = true → forced → quiet → answers (breached resumed))
        ∧ (x.eRun = true → ¬forced → quiet → answers (hotStop .quietZone b))
        ∧ (x.eRun = true → ¬forced → ¬quiet → want → ¬block → ¬near → answers resumed)
        ∧ (x.eRun = true → ¬forced → ¬quiet → ¬(want ∧ ¬block ∧ ¬near) → answers b))

/-- R78 to R80, R89, R90, R92, R96, R97, R101, R127: the expiries of ENG's timers, each in the state that started the timer;
the start list is pruned first, and where pruning stops is log entry 13. Whether part time has reached the expiry time is
read as a modular difference below half the range (log entry 6). -/
def Obligations.EngineTimersExpire : Prop :=
  ∀ (s : State) (e : PartTime), elapsed s.mdc.partTime e < 2147483648 →
    let b := prune s
    let qd := (s.rte.look.bind Lookahead.qd).map fun mm => min 65534 (mm / 1000)
    let within := fun (limit : Nat) => qd.any fun m => decide (m < limit)
    let failed : Eng := { b.eng with attempts := s.eng.attempts + 1 }
    let block := s.rte.zone = .quiet ∨ within s.cal.minRunDist = true
    let at_ := fun (ms : Nat) => some (s.mdc.partTime + BitVec.ofNat 32 ms)
    (s.eng.state = .cranking → s.eng.stateTimer = some e →
        exec .crankTimerExpiry s = .next
          (if 3 ≤ s.eng.attempts + 1 then
            State.raising
              { b with
                eng := { failed with state := .lockout, stateTimer := none, forced := false, breachMark := false } }
              .eng
              [(.crankFailed, s.eng.attempts + 1, s.cal.crankTimeout), (.engineLockout, 0, b.eng.starts.length)]
          else
            State.raising { b with eng := { failed with state := .pause, stateTimer := at_ s.cal.crankPause } } .eng
              [(.crankFailed, s.eng.attempts + 1, s.cal.crankTimeout)]))
      ∧ (s.eng.state = .pause → s.eng.stateTimer = some e →
          exec .pauseTimerExpiry s = .next
            (if ¬block ∨ s.eng.forced = true then startEngine .retry b else stopEngine .crankAbandoned b))
      ∧ (s.eng.state = .warmup → s.eng.stateTimer = some e →
          exec .warmTimerExpiry s = .next
            { b with eng := { b.eng with state := .running, stateTimer := none, stopHold := none, attempts := 0 } })
      ∧ (s.eng.state = .running → s.eng.stopHold = some e →
          exec .stopHoldExpiry s = .next
            { b with eng := { b.eng with state := .cooldown, stopHold := none, stateTimer := at_ s.cal.cooldownMs } })
      ∧ (s.eng.state = .cooldown → s.eng.stateTimer = some e →
          exec .cooldownTimerExpiry s = .next (stopEngine .cooldownEnd b))

/-- R78, R80, R91, R175: a FAULT_CLEAR addressed to the engine prunes (where pruning stops is log entry 13), and in LOCKOUT
stops the engine with the attempt count at 0 and ENGINE_STOP FAULT_CLEARED; any other target is a BAD_VALUE. -/
def Obligations.FaultClearServed : Prop :=
  ∀ (s : State) (b : Byte) (rest : List Frame), Serves s ⟨0x23, [b]⟩ rest →
    (b ≠ 1 → exec .faultClear s = .next (s.answered rest (.reply 0x23 .badValue s.mdc.op b.toNat)))
      ∧ (b = 1 → s.eng.state ≠ .lockout →
          exec .faultClear s = .next { s.answered rest (.reply 0x23 .done s.mdc.op 0) with eng := (prune s).eng })
      ∧ (b = 1 → s.eng.state = .lockout →
          exec .faultClear s = .next
            (stopEngine .faultCleared
              { s.answered rest (.reply 0x23 .done s.mdc.op 1) with eng := { (prune s).eng with attempts := 0 } }))

/-- R83: the start list holds at most twelve entries with strictly increasing start times (by modular difference, 00 section
5.4); each entry into CRANKING, by whatever command, adds exactly one entry and sends a STARTS increment of 3 for FORCED_OVER
and of 1 for every other kind; and WRU adds an increment of STARTS unless STARTS is saturated. -/
def Obligations.StartAccounting : Prop :=
  (∀ (c : Instr) (s t : State), s.eng.Inv → exec c s = .next t →
      t.eng.starts.length ≤ 12 ∧ startsRise t.eng.starts
        ∧ (s.eng.state ≠ .cranking → t.eng.state = .cranking →
            ∃ (kept : List StartEntry) (new : StartEntry),
              t.eng.starts = kept ++ [new] ∧ kept <:+ s.eng.starts
                ∧ t.mail.incIn = s.mail.incIn ++ [(4, if new.kind = .forcedOver then 3 else 1)]))
    ∧ (∀ (s : State) (n : Nat) (rest : List (Nat × Nat)), s.mail.incIn = (4, n) :: rest →
        ∃ t, exec .engineIncrement s = .next t
          ∧ (t.wru.counter 4).value =
            if (s.wru.counter 4).saturated then (s.wru.counter 4).value
            else min 4294967295 ((s.wru.counter 4).value + n))

/-! ## Wear accounting (06) -/

/-- R130 to R134, R139, R142, R143, R146: WRU takes a record. Each counter's increment enters its residue, whole units carry
into its value up to the largest value and into its km tally, a saturated counter takes nothing, a changed value is graded when
SEEDED with one WEAR_LEVEL for each changed level in id order, and the lamp follows. Derived: the mark at the largest value and
the units that enter the tally are log entry 15; that the lamp phase is kept outside FLASH is log entry 19. -/
def Obligations.WruResultTaken : Prop :=
  ∀ (s : State) (x : ResultRecord) (rest : List ResultRecord), s.mail.wruIn = x :: rest →
    (∀ c < 8, (s.wru.counter c).residue < residueUnit c) →
    let engineOn := s.eng.state = .warmup ∨ s.eng.state = .running ∨ s.eng.state = .cooldown
    let increment := fun (c : Nat) =>
      if c = 0 then x.shares.axle1.toNat * x.dt
      else if c = 1 then x.shares.axle2.toNat * x.dt
      else if c = 2 then (if s.cal.axleCount = 3 then x.shares.axle3.toNat * x.dt else 0)
      else if c = 3 then x.shares.batt.natAbs * x.dt * x.w / 256
      else if c = 5 then (if engineOn then x.dt else 0)
      else if c = 7 then x.shares.res.toNat * x.dt
      else 0
    let residue := fun (c : Nat) => (s.wru.counter c).residue + increment c
    let sum := fun (c : Nat) => (s.wru.counter c).value + residue c / residueUnit c
    let value := fun (c : Nat) => min 4294967295 (sum c)
    let level := fun (c : Nat) =>
      if s.wru.seeded = true ∧ value c ≠ (s.wru.counter c).value then gradeOf s.cal c (value c)
      else (s.wru.counter c).level
    let fed := fun (c : Nat) =>
      if (s.wru.counter c).saturated then s.wru.counter c
      else
        { value := value c, residue := residue c % residueUnit c, saturated := decide (4294967295 < sum c)
          level := level c }
    (∀ c < 8, (s.wru.counter c).value ≤ 4294967295) →
    ∃ t, exec .wruResult s = .next t
      ∧ (∀ c < 8, t.wru.counter c = fed c)
      ∧ (∀ c < 4, (s.wru.counter c).saturated = false → s.wru.kmTally c ≤ 65535 →
          t.wru.kmTally c = min 65535 (s.wru.kmTally c + (value c - (s.wru.counter c).value)))
      ∧ (∀ c < 4, (s.wru.counter c).saturated = true → t.wru.kmTally c = s.wru.kmTally c)
      ∧ (t.wru.ring = s.wru.ring ∧ t.wru.seeded = s.wru.seeded ∧ t.wru.kmAcc = s.wru.kmAcc)
      ∧ LampFollows s.wru t.wru s.mdc.partTime
      ∧ t = State.raising { s with wru := t.wru, mail := { s.mail with wruIn := rest } } .wru
          (((List.range 8).filter fun c => decide ((fed c).level ≠ (s.wru.counter c).level)).map fun c =>
            (.wearLevel, c, (fed c).level.code + 256 * (s.wru.counter c).level.code))

/-- R132 to R134, R139, R142, R143: WRU takes an increment of STARTS or HOTSTOP. Derived: the mark at the largest value is log
entry 15; that the lamp phase is kept outside FLASH is log entry 19. -/
def Obligations.EngineIncrementTaken : Prop :=
  ∀ (s : State) (c n : Nat) (rest : List (Nat × Nat)), s.mail.incIn = (c, n) :: rest → (c = 4 ∨ c = 6) →
    (s.wru.counter c).value ≤ 4294967295 →
    let k := s.wru.counter c
    let value := min 4294967295 (k.value + n)
    let level := if s.wru.seeded = true ∧ value ≠ k.value then gradeOf s.cal c value else k.level
    let fed : Counter :=
      if k.saturated then k
      else { value, residue := k.residue, saturated := decide (4294967295 < k.value + n), level }
    ∃ t, exec .engineIncrement s = .next t
      ∧ (∀ d < 8, t.wru.counter d = if d = c then fed else s.wru.counter d)
      ∧ (t.wru.tally = s.wru.tally ∧ t.wru.ring = s.wru.ring ∧ t.wru.seeded = s.wru.seeded ∧ t.wru.kmAcc = s.wru.kmAcc)
      ∧ LampFollows s.wru t.wru s.mdc.partTime
      ∧ t = State.raising { s with wru := t.wru, mail := { s.mail with incIn := rest } } .wru
          (if fed.level = k.level then [] else [(.wearLevel, c, fed.level.code + 256 * k.level.code)])

/-- R145, R146: WRU takes a distance; at 1,000,000 mm the km tallies are pushed into their rings. R144: each expiry of the lamp
timer in FLASH changes the phase and WLAMP and starts the timer again. Whether part time has reached the expiry time is read as
a modular difference below half the range (log entry 6). -/
def Obligations.KmAndLampEvents : Prop :=
  (∀ (s : State) (d : Nat) (rest : List Nat), s.mail.kmIn = d :: rest →
      ∃ t, exec .kmDistance s = .next t
        ∧ t = { s with wru := t.wru, mail := { s.mail with kmIn := rest } }
        ∧ (s.wru.kmAcc + d < 1000000 → t.wru = { s.wru with kmAcc := s.wru.kmAcc + d })
        ∧ (1000000 ≤ s.wru.kmAcc + d →
            t.wru = { s.wru with kmAcc := s.wru.kmAcc + d - 1000000, tally := t.wru.tally, ring := t.wru.ring }
            ∧ ∀ c < 4, t.wru.kmTally c = 0
                ∧ t.wru.kmRing c =
                  (if 16 ≤ (s.wru.kmRing c).length then (s.wru.kmRing c).drop 1 else s.wru.kmRing c) ++ [s.wru.kmTally c]))
  ∧ (∀ (s : State) (e : PartTime), s.wru.pattern = .flash → s.wru.lampTimer = some e →
      elapsed s.mdc.partTime e < 2147483648 →
      exec .lampTimerExpiry s = .next
        { s with
          wru :=
            { s.wru with
              phase := if s.wru.phase = .lit then .dark else .lit
              wlamp := decide (s.wru.phase ≠ .lit)
              lampTimer := some (s.mdc.partTime + 500) } })

/-- R137, R139, R142, R143: WEAR_SEED in SEEDED is refused; in UNSEEDED every counter takes its seed, WRU becomes SEEDED, every
counter is graded with one WEAR_LEVEL for each level that changed, in id order, and the answer counts the saturated counters.
R138, R142, R143: WEAR_SERVICE checks its id and the seeded status, and otherwise clears the counter, its tally and its ring,
raises WEAR_LEVEL when the level was above NONE, and sets the lamp. Each waits until WRU has taken the end of LOADING (R155; log
entry 22). The mark at the largest value is log entry 15; that the lamp phase is kept outside FLASH is log entry 19. -/
def Obligations.WearRequestsServed : Prop :=
  (∀ (s : State) (p : List Byte) (rest : List Frame), Serves s ⟨0x60, p⟩ rest → p.length = 32 →
      s.mail.loadEndWru = false →
      (s.wru.seeded = true → exec .wearSeed s = .next (s.answered rest (.reply 0x60 .refusedState s.mdc.op 1)))
        ∧ (s.wru.seeded = false →
            let b := fun (k : Nat) => (p.getD k 0).toNat
            let sum := fun (c : Nat) =>
              (s.wru.counter c).value
                + (b (4 * c) * 16777216 + b (4 * c + 1) * 65536 + b (4 * c + 2) * 256 + b (4 * c + 3))
            let seeded := fun (c : Nat) =>
              { value := min 4294967295 (sum c)
                residue := (s.wru.counter c).residue
                saturated := (s.wru.counter c).saturated || decide (4294967295 < sum c)
                level := gradeOf s.cal c (min 4294967295 (sum c)) : Counter }
            ∃ t, exec .wearSeed s = .next t
              ∧ (∀ c < 8, t.wru.counter c = seeded c)
              ∧ (t.wru.tally = s.wru.tally ∧ t.wru.ring = s.wru.ring ∧ t.wru.kmAcc = s.wru.kmAcc
                  ∧ t.wru.seeded = true)
              ∧ LampFollows s.wru t.wru s.mdc.partTime
              ∧ t = State.raising
                  { s.answered rest
                      (.reply 0x60 .done s.mdc.op ((List.range 8).countP fun c => (seeded c).saturated)) with
                    wru := t.wru }
                  .wru
                  (((List.range 8).filter fun c => decide ((seeded c).level ≠ (s.wru.counter c).level)).map fun c =>
                    (.wearLevel, c, (seeded c).level.code + 256 * (s.wru.counter c).level.code))))
  ∧ (∀ (s : State) (b : Byte) (rest : List Frame), Serves s ⟨0x61, [b]⟩ rest → s.mail.loadEndWru = false →
      let c := b.toNat
      let refuse := fun (st : Status) (detail : Nat) => s.answered rest (.reply 0x61 st s.mdc.op detail)
      (7 < c → exec .wearService s = .next (refuse .badValue 0xFFFF))
        ∧ (c ≤ 7 → s.wru.seeded = false → exec .wearService s = .next (refuse .refusedState 0))
        ∧ (c ≤ 7 → s.wru.seeded = true → s.wru.pattern = lampPatternFor s.wru →
            let old := (s.wru.counter c).level
            ∃ t, exec .wearService s = .next t
              ∧ (∀ d < 8, t.wru.counter d =
                  if d = c then { value := 0, residue := 0, saturated := false, level := .none } else s.wru.counter d)
              ∧ (∀ d < 4, t.wru.kmTally d = (if d = c then 0 else s.wru.kmTally d)
                  ∧ t.wru.kmRing d = if d = c then [] else s.wru.kmRing d)
              ∧ (t.wru.seeded = true ∧ t.wru.kmAcc = s.wru.kmAcc)
              ∧ LampFollows s.wru t.wru s.mdc.partTime
              ∧ t = State.raising { s.answered rest (.reply 0x61 .done s.mdc.op old.code) with wru := t.wru } .wru
                  (if old = .none then [] else [(.wearLevel, c, 256 * old.code)])))

/-- R140, its last sentence: a counter's value decreases only through WEAR_SERVICE, a power-on or a RESETN. -/
def Obligations.WearValuesRise : Prop :=
  ∀ (i : Instr) (s t : State), WearInv s → exec i s = .next t →
    ∀ c < 8, (t.wru.counter c).value < (s.wru.counter c).value →
      i = .wearService ∨ ∃ straps, i = .powerOn straps ∨ i = .resetn straps

/-- R148: a service prediction, in the order of its table; where a rate gives it, the counter reaches the SERVICE threshold in
the kilometre after that many whole ones at that rate. -/
def Obligations.PredictionSound : Prop :=
  ∀ (cal : Cal) (w : Wru) (c : Nat), c < 4 →
    let svc := cal.threshold c 1
    let v := (w.counter c).value
    let ring := w.kmRing c
    let rate := ring.sum / ring.length
    (w.seeded = false ∨ svc = 0 → prediction cal w c = 65535)
      ∧ (w.seeded = true → svc ≠ 0 → svc ≤ v → prediction cal w c = 0)
      ∧ (w.seeded = true → v < svc → ring.length < 4 ∨ rate = 0 → prediction cal w c = 65535)
      ∧ (w.seeded = true → v < svc → 4 ≤ ring.length → rate ≠ 0 →
          prediction cal w c ≤ 65534 ∧ v + prediction cal w c * rate ≤ svc
            ∧ (prediction cal w c < 65534 → svc < v + (prediction cal w c + 1) * rate))

/-! ## The link (08) -/

/-- R166, R167, R169: the bytes of a frame, received one by one from HUNT, put exactly its type and payload into the intake
queue, or raise DROPPED where the queue is full. -/
def Obligations.FrameRoundTrip : Prop :=
  ∀ (type : Byte) (payload : List Byte) (s : State), payload.length ≤ 56 → s.lnk.state = .ready →
    s.lnk.receiver = .hunt →
    let covered := [type, BitVec.ofNat 8 payload.length] ++ payload
    let crc := (crc16 covered).toNat
    let line := [0xB5#8] ++ covered ++ [BitVec.ofNat 8 (crc / 256), BitVec.ofNat 8 crc]
    let received := line.foldl
      (fun o b => match o with
        | .next t => exec (.characterReceived b) t
        | stopped => stopped)
      (.next s : Out)
    let idle : Lnk := { s.lnk with gapTimer := none, awaitRise := false }
    received = .next
      { s with
        lnk :=
          if s.lnk.intake.length < 4 then { idle with intake := s.lnk.intake ++ [⟨type, payload⟩] }
          else
            { idle with
              dropped := true
              waiting := s.lnk.waiting.map fun f => { f with newDropped := true } } }

/-- R167 to R169: what one character does in READY, and that FRAME_RECEIVED is the receipt of a frame's last CRC byte (log entry
9). R166, R167, Table 8-5: when a frame is complete, when it is valid, and its type and payload; the CRC bit by bit is in
FramesStaged. R163: what the receiver makes of LRX, its level cycle by cycle from a falling edge; a line that carries a
character's ten bits, each for a bit time, is received as that character. -/
def Obligations.CharacterTaken : Prop :=
  (∀ (lead type n hi lo : Byte) (payload : List Byte),
      let bytes := lead :: type :: n :: payload ++ [hi, lo]
      (frameComplete bytes = true ↔ n.toNat ≤ payload.length)
        ∧ (frameValid bytes = true ↔ (crc16 (type :: n :: payload)).toNat = hi.toNat * 256 + lo.toNat)
        ∧ frameOf bytes = ⟨type, payload⟩)
  ∧ (∀ bytes : List Byte, frameComplete bytes = true ↔ ∃ n : Byte, bytes[2]? = some n ∧ 5 + n.toNat ≤ bytes.length)
  ∧ (∀ (divisor : Nat) (line : Nat → Bool) (b : Byte),
      let bit := if divisor = 0 then 20 else if divisor = 1 then 40 else 16 * (divisor + 1)
      let level := fun (k : Nat) => line (k * bit + bit / 2)
      (level 0 = true → receiveCharacter divisor line = .falseStart)
        ∧ (level 0 = false → level 9 = false → receiveCharacter divisor line = .framingFault)
        ∧ (level 0 = false → level 9 = true → (∀ k < 8, level (k + 1) = b.getLsbD k) →
            receiveCharacter divisor line = .character b)
        ∧ ((∀ cycle < 10 * bit, line cycle = (characterBits b).getD (cycle / bit) true) →
            receiveCharacter divisor line = .character b))
  ∧ ∀ (s : State) (b : Byte), s.lnk.state = .ready →
    let l : Lnk := { s.lnk with awaitRise := false }
    let hunting : Lnk := { l with receiver := .hunt, gapTimer := none }
    let bad : Lnk :=
      { hunting with checkErr := true, waiting := l.waiting.map fun f => { f with newCheckErr := true } }
    let answers := fun (x : Lnk) => exec (.characterReceived b) s = .next { s with lnk := x }
    let completes := fun (x : Lnk) => answers x ∧ exec (.frameReceived b) s = .next { s with lnk := x }
    (s.lnk.receiver = .hunt → b ≠ 0xB5 → answers l)
      ∧ (s.lnk.receiver = .hunt → b = 0xB5 →
          answers { l with receiver := .assembling [b], gapTimer := some 92160 })
      ∧ (∀ bytes, s.lnk.receiver = .assembling bytes →
          (bytes.length = 2 → 56 < b.toNat → answers bad)
          ∧ (¬(bytes.length = 2 ∧ 56 < b.toNat) → frameComplete (bytes ++ [b]) = false →
              answers { l with receiver := .assembling (bytes ++ [b]), gapTimer := some 92160 })
          ∧ (bytes.length ≠ 2 → frameComplete (bytes ++ [b]) = true →
              (frameValid (bytes ++ [b]) = false → completes bad)
              ∧ (frameValid (bytes ++ [b]) = true → l.intake.length < 4 →
                  completes { hunting with intake := l.intake ++ [frameOf (bytes ++ [b])] })
              ∧ (frameValid (bytes ++ [b]) = true → 4 ≤ l.intake.length →
                  completes
                    { hunting with
                      dropped := true, waiting := l.waiting.map fun f => { f with newDropped := true } })))

/-- R163, R165, R168: the gap timer, a framing fault and a break. That a low period of exactly 20 bit times is a framing fault,
and the mark that waits for LRX to rise, are log entry 16. -/
def Obligations.ReceiverFaults : Prop :=
  ∀ (s : State) (low : Nat),
    let bit := if s.lnk.divisor = 0 then 20 else if s.lnk.divisor = 1 then 40 else 16 * (s.lnk.divisor + 1)
    let hunting : Lnk := { s.lnk with receiver := .hunt, gapTimer := none }
    let bad : Lnk :=
      { hunting with checkErr := true, waiting := s.lnk.waiting.map fun f => { f with newCheckErr := true } }
    (s.lnk.gapTimer = some 0 → (∃ b, s.lnk.receiver = .assembling b) →
        exec .gapTimerExpiry s = .next { s with lnk := bad })
      ∧ (s.lnk.state = .ready → low ≤ 20 * bit → (∃ b, s.lnk.receiver = .assembling b) →
          exec (.framingFault low) s = .next { s with lnk := { bad with awaitRise := false } })
      ∧ (s.lnk.state = .ready → low ≤ 20 * bit → s.lnk.receiver = .hunt →
          exec (.framingFault low) s = .next { s with lnk := { s.lnk with awaitRise := false } })
      ∧ (s.lnk.state = .ready → 20 * bit < low → s.mdc.straps.rate ≠ 3 →
          exec (.lineBreak low) s = .next { s with lnk := { hunting with awaitRise := true } })
      ∧ (s.lnk.state = .ready → 20 * bit < low → s.mdc.straps.rate = 3 →
          exec (.lineBreak low) s = .next
            { s with lnk := { hunting with state := .rateUnknown, phase := .waitBreak, counting := false } })

/-- R164, R171: the steps of a rate detection; with the link READY again a frame that waited begins transmission, at the new
divisor, which clears the discard flags it carries (R172); a frame still being transmitted keeps its divisor. The mark that
MEASURE has seen its first rising edge is log entry 17; that a new break keeps the count and the overflow mark of the
measurement it abandons is log entry 32. -/
def Obligations.RateDetected : Prop :=
  ∀ (s : State) (low n : Nat), s.lnk.state = .rateUnknown →
    let l := s.lnk
    (36864 ≤ low →
        exec (.breakWaitEnd low) s = .next { s with lnk := { l with phase := .waitStart, counting := false } })
      ∧ (low < 36864 → exec (.breakWaitEnd low) s = .next s)
      ∧ (l.phase = .waitStart →
          exec .measureStart s = .next { s with lnk := { l with phase := .measure, counting := false } })
      ∧ (l.phase = .measure → l.counting = false →
          exec .measureFirstRisingEdge s = .next
            { s with lnk := { l with counting := true, measCount := 0, overflow := false } })
      ∧ (l.phase = .measure → l.counting = true →
          exec .measurementCountOverflow s = .next { s with lnk := { l with measCount := 0, overflow := true } }
          ∧ (l.overflow = true ∨ n < 64 ∨ 32831 < n →
              exec (.measurementEnd n) s = .next
                { s with lnk := { l with phase := .waitBreak, counting := false, measCount := n } })
          ∧ (l.overflow = false → 64 ≤ n → n ≤ 32831 →
              let divisor := (n + 64) / 128 - 1
              divisor ≤ 255
                ∧ exec (.measurementEnd n) s = .next
                  (State.raising
                    { s with
                      lnk :=
                        let ready : Lnk :=
                          { l with state := .ready, divisor, receiver := .hunt, counting := false, measCount := n }
                        match l.transmitting, l.waiting with
                        | none, some w =>
                          { ready with
                            transmitting := some w, txDivisor := divisor, waiting := none
                            dropped := if w.flags.dropped = true ∧ w.newDropped = false then false else l.dropped
                            checkErr := if w.flags.checkErr = true ∧ w.newCheckErr = false then false else l.checkErr }
                        | _, _ => ready }
                    .lnk [(.linkRateSet, divisor, n)])))

/-- R166, R171, R172: staging the oldest answer. It carries the link flags of this moment; with no frame being transmitted its
transmission begins at once, which clears the discard flags it carries, and otherwise it waits. R171, R172, R182: building and
staging a NOTICE. It carries up to six of the oldest records and the LOST mark, which are cleared from NTU; the due mark stays
while records remain. R166, Table 9-3: the bytes of a frame on the line, its CRC bit by bit, and the link-flags byte. R162: LTX
is high while no frame is transmitted. R163, R171: the ten bits of a character, and the level of LTX, cycle by
cycle, through a frame, at the divisor with which its transmission began. -/
def Obligations.FramesStaged : Prop :=
  (∀ (type : Byte) (payload : List Byte),
      let covered := type :: BitVec.ofNat 8 payload.length :: payload
      let crc := (crc16 covered).toNat
      frameBytes type payload = 0xB5#8 :: covered ++ [BitVec.ofNat 8 (crc / 256), BitVec.ofNat 8 crc])
  ∧ (crc16 [] = 0xFFFF
      ∧ ∀ (bytes : List Byte) (b : Byte),
        let shift := fun (c : BitVec 16) => if c.msb then (c <<< 1) ^^^ 0x1021#16 else c <<< 1
        crc16 (bytes ++ [b])
          = shift (shift (shift (shift (shift (shift (shift (shift (crc16 bytes ^^^ (b.setWidth 16 <<< 8))))))))))
  ∧ (∀ f : LinkFlags,
      f.code = (if f.dropped then 1 else 0) + (if f.checkErr then 2 else 0) + (if f.intakeNearFull then 4 else 0)
        + if f.noticePending then 8 else 0)
  ∧ (∀ b : Byte,
      characterBits b =
        [false, b.getLsbD 0, b.getLsbD 1, b.getLsbD 2, b.getLsbD 3, b.getLsbD 4, b.getLsbD 5, b.getLsbD 6, b.getLsbD 7, true])
  ∧ (∀ (l : Lnk) (cycle : Nat),
      let bit := if l.txDivisor = 0 then 20 else if l.txDivisor = 1 then 40 else 16 * (l.txDivisor + 1)
      (l.transmitting = none → l.ltx = .high ∧ l.ltxLevel cycle = true)
        ∧ (∀ f, l.transmitting = some f → l.ltx = .busy
            ∧ (∀ b, f.bytes[cycle / (10 * bit)]? = some b →
                l.ltxLevel cycle = (characterBits b).getD (cycle / bit % 10) true)
            ∧ (10 * bit * f.bytes.length ≤ cycle → l.ltxLevel cycle = true)))
  ∧ (∀ (s : State) (a : Answer) (rest : List Answer), s.lnk.replies = a :: rest → s.lnk.state = .ready →
      s.lnk.restartHold = false → s.lnk.waiting = none →
      let flags : LinkFlags :=
        { dropped := s.lnk.dropped, checkErr := s.lnk.checkErr
          intakeNearFull := decide (3 ≤ s.lnk.intake.length), noticePending := decide (s.ntu.queue ≠ []) }
      let hold := match a with
        | .reply echo .done _ _ => decide (echo = 0x22)
        | _ => false
      let f : Staged :=
        { bytes := frameBytes a.type (byte flags.code :: a.body), flags, restartReply := hold, newDropped := false
          newCheckErr := false }
      let l : Lnk := { s.lnk with replies := rest, restartHold := hold }
      exec .stageAnswer s = .next
        (if s.lnk.transmitting.isSome then { s with lnk := { l with waiting := some f } }
        else { s with lnk := { l with transmitting := some f, txDivisor := s.lnk.divisor, dropped := false, checkErr := false } }))
  ∧ (∀ s : State, s.lnk.replies = [] → s.lnk.state = .ready → s.lnk.restartHold = false → s.lnk.waiting = none →
      s.ntu.due = true → s.ntu.queue ≠ [] →
      let left := s.ntu.queue.drop 6
      let flags : LinkFlags :=
        { dropped := s.lnk.dropped, checkErr := s.lnk.checkErr
          intakeNearFull := decide (3 ≤ s.lnk.intake.length), noticePending := decide (left ≠ []) }
      let records := s.ntu.queue.take 6
      let payload := [byte flags.code, byte (bit s.ntu.lost), byte records.length] ++ records.flatMap EventRec.bytes
      let f : Staged :=
        { bytes := frameBytes 0xC0 payload, flags, restartReply := false, newDropped := false, newCheckErr := false }
      let ntu : Ntu := { s.ntu with queue := left, lost := false, due := decide (left ≠ []) }
      exec .stageNotice s = .next
        (if s.lnk.transmitting.isSome then { s with ntu, lnk := { s.lnk with waiting := some f } }
        else { s with ntu, lnk := { s.lnk with transmitting := some f, txDivisor := s.lnk.divisor, dropped := false, checkErr := false } }))

/-! ## Notices (09) -/

/-- R180, R181: NTU takes the oldest record that waits from a block, and decides whether a NOTICE is due. R181: at the expiry of
the coalescing timer the due mark is set and the timer stops. Whether part time has reached the expiry time is read as a modular
difference below half the range (log entry 6). -/
def Obligations.NoticeEvents : Prop :=
  (∀ (s : State) (src : Block) (e : EventRec) (pre post : List (Block × EventRec)),
      s.mail.raised = pre ++ (src, e) :: post → (∀ r ∈ pre, r.1 ≠ src) →
      let queue := s.ntu.queue ++ [e]
      let ntu : Ntu :=
        if 16 ≤ s.ntu.queue.length then { s.ntu with lost := true }
        else if 6 ≤ queue.length then { s.ntu with queue, due := true, timer := none }
        else if s.ntu.queue = [] ∧ s.ntu.due = false then
          (if s.cal.noticeDelay = 0 then { s.ntu with queue, due := true }
          else { s.ntu with queue, timer := some (s.mdc.partTime + BitVec.ofNat 32 s.cal.noticeDelay) })
        else { s.ntu with queue }
      exec (.eventRaised src) s = .next { s with ntu, mail := { s.mail with raised := pre ++ post } })
  ∧ (∀ (s : State) (e : PartTime), s.ntu.timer = some e → elapsed s.mdc.partTime e < 2147483648 →
      exec .coalescingTimerExpiry s = .next { s with ntu := { s.ntu with due := true, timer := none } })

/-! ## Queries and MDC's own answers (07, 09) -/

/-- R177, R103, R149, R128, R61: a QUERY is answered with the REPORT of its topic at this moment, and changes nothing, but
that ENG prunes its start list before STARTS_A and STARTS_B (R80; where pruning stops is log entry 13); a topic that is no
code of Table 9-4 is a BAD_VALUE (R175). One that shows DSP's or WRU's state waits until that block has taken the end of
LOADING (R155; log entry 22). R174, R176 to R179, Tables 9-6, 9-7 and 9-8: the bytes of a DISPATCH, a REPLY, a REPORT and an
event record, and the content of every topic's REPORT. -/
def Obligations.QueriesAnswered : Prop :=
  (∀ (s : State) (b : Byte) (rest : List Frame), Serves s ⟨0x70, [b]⟩ rest →
      let report := fun (content : List Byte) => s.answered rest (.report 0x70 b content)
      let pruned : State := { s with eng := (prune s).eng }
      (b = 0 → s.mail.loadEndDsp = false → s.mail.loadEndWru = false →
          exec .queryStatus s = .next (report (statusReport s)))
        ∧ (b = 1 → s.mail.loadEndWru = false → exec .queryWearA s = .next (report (wearReport 0 s)))
        ∧ (b = 2 → s.mail.loadEndWru = false → exec .queryWearB s = .next (report (wearReport 4 s)))
        ∧ (b = 3 → s.mail.loadEndWru = false → exec .queryPredict s = .next (report (predictReport s)))
        ∧ (b = 4 → exec .queryRoute s = .next (report (routeReport s)))
        ∧ (b = 5 → exec .queryStartsA s = .next { report (startsReport 0 pruned) with eng := pruned.eng })
        ∧ (b = 6 → exec .queryStartsB s = .next { report (startsReport 6 pruned) with eng := pruned.eng })
        ∧ (b = 7 → exec .queryMap s = .next (report (mapReport s)))
        ∧ (7 < b.toNat → exec .queryUnknownTopic s = .next (s.answered rest (.reply 0x70 .badValue s.mdc.op b.toNat))))
  ∧ (∀ (d : DispatchMsg) (e i : Byte) (st : Status) (op : OpState) (n : Nat) (content : List Byte) (v : EventRec) (s : State),
      let u8 := fun (n : Nat) => [BitVec.ofNat 8 n]
      let u16 := fun (n : Nat) => [BitVec.ofNat 8 (n / 256), BitVec.ofNat 8 n]
      let u32 := fun (n : Nat) =>
        [BitVec.ofNat 8 (n / 16777216), BitVec.ofNat 8 (n / 65536), BitVec.ofNat 8 (n / 256), BitVec.ofNat 8 n]
      let s16 := fun (n : Int) => u16 (n % 65536).toNat
      let on := fun (b : Bool) (n : Nat) => if b then n else 0
      let opCode := fun (o : OpState) => match o with | .loading => 0 | .config => 1 | .active => 2
      let permitCode := fun (o : Permit) => match o with | .off => 0 | .waitRelease => 1 | .on => 2
      let zoneCode := fun (o : Zone) => match o with | .open_ => 0 | .quiet => 1 | .charge => 2
      let cursorCode := fun (o : Cursor) => match o with | .idle => 0 | .running => 1 | .holding => 2 | .done => 3
      let dirCode := fun (o : Dir) => match o with | .forward => 0 | .reverse => 1
      let levelCode := fun (o : Level) => match o with | .none => 0 | .advisory => 1 | .service => 2 | .limit => 3
      let counter := fun (c : Nat) =>
        u32 (s.wru.counter c).value ++ u8 (levelCode (s.wru.counter c).level) ++ u8 (on (s.wru.counter c).saturated 1)
      let predicted := fun (c : Nat) =>
        u8 (s.wru.kmRing c).length ++ u16 (min 65535 ((s.wru.kmRing c).sum / (s.wru.kmRing c).length))
          ++ u16 (prediction s.cal s.wru c)
      let start := fun (k : Nat) =>
        match s.eng.starts[k]? with
        | none => [0, 0, 0, 0, 0xFF]
        | some x =>
          u32 x.time.toNat
            ++ u8 (match x.kind with | .normal => 0 | .forced => 1 | .forcedOver => 2 | .retry => 3)
      let starts := fun (k : Nat) =>
        u8 s.eng.starts.length ++ u8 (s.cal.get 42).toNat ++ u8 (on s.eng.budgetMark 1)
          ++ start k ++ start (k + 1) ++ start (k + 2) ++ start (k + 3) ++ start (k + 4) ++ start (k + 5)
      let cached := fun (k : Nat) =>
        (match (s.env.entry k).key with | none => [0xFF, 0xFF] | some q => u8 q.i ++ u8 q.j)
          ++ u8 ((match (s.env.entry k).state with | .empty => 0 | .filling => 1 | .valid => 2 | .defective => 3)
            + on (s.env.entry k).discard 128)
          ++ u8 (s.env.order.idxOf k) ++ u8 (s.env.entry k).attempts
      let offered : Lookahead :=
        match s.rte.look with
        | some l => l
        | none => { socTarget := (s.cal.get 48).toNat, qd := none, r := 0, d := 0, floorQ := 0 }
      (Answer.dispatch d).type = 0x90 ∧ (Answer.reply e st op n).type = 0xA0 ∧ (Answer.report e i content).type = 0xB0
        ∧ (Answer.dispatch d).body =
          u8 (match d.mode with | .notActive => 0 | .motoring => 1 | .coasting => 2 | .braking => 3)
            ++ u16 (on d.flags.tractionLimited 1 + on d.flags.regenLimited 2 + on d.flags.auxOverload 4
              + on d.flags.envelopeHeld 8 + on d.flags.envelopeFallback 16 + on d.flags.pedalConflict 32
              + on d.flags.regenFaded 64 + on d.flags.resistorDerated 128 + on d.flags.permitWait 256
              + on d.flags.quietZone 512)
            ++ u8 (permitCode d.permit) ++ u8 (on d.engineRun 1)
            ++ s16 d.shares.mot ++ s16 d.shares.gen ++ s16 d.shares.batt ++ s16 d.shares.res ++ s16 d.shares.fric
            ++ s16 d.shares.axle1 ++ s16 d.shares.axle2 ++ s16 d.shares.axle3
            ++ u16 d.disEff ++ u16 d.chgEff ++ u16 d.w ++ u16 d.socTarget ++ u8 (zoneCode d.zone) ++ u16 d.qd ++ u8 d.dt
        ∧ (Answer.reply e st op n).body =
          [e] ++ u8 (match st with
            | .done => 0 | .refusedState => 1 | .badValue => 2 | .badLength => 3 | .unknownType => 4 | .badCal => 5)
            ++ u8 (opCode op) ++ u16 n
        ∧ (Answer.report e i content).body = [e, i] ++ content
        ∧ v.bytes =
          u8 (match v.kind with
            | .demandTimeout => 1 | .permitRestored => 2 | .engineStart => 3 | .engineRunning => 4 | .engineStop => 5
            | .crankFailed => 6 | .engineStall => 7 | .engineLockout => 8 | .budgetExhausted => 9 | .quietBreach => 10
            | .segmentEnter => 11 | .routeHold => 12 | .routeTurn => 13 | .routeWrap => 14 | .routeDone => 15
            | .trimRejected => 16 | .mapFault => 17 | .resistorHot => 18 | .resistorCool => 19 | .wearLevel => 20
            | .stateChange => 21 | .calDefaulted => 22 | .calClamped => 23 | .linkRateSet => 24)
            ++ u8 v.a ++ u16 v.b ++ u32 v.time.toNat
        ∧ statusReport s =
          u8 (opCode s.mdc.op) ++ u8 (permitCode s.dsp.permit)
            ++ u8 (match s.eng.state with
              | .stopped => 0 | .cranking => 1 | .pause => 2 | .warmup => 3 | .running => 4 | .cooldown => 5
              | .lockout => 6)
            ++ u8 s.eng.attempts ++ u8 (cursorCode s.rte.cursor) ++ u8 (on s.wru.seeded 1)
            ++ u8 (match s.wru.pattern with | .off => 0 | .steady => 1 | .flash => 2)
            ++ u8 (s.mdc.straps.rate.toNat + 4 * s.mdc.straps.mw.toNat + on s.mdc.straps.calskip 16)
            ++ u8 (match s.lnk.state with | .rateUnknown => 0 | .ready => 1)
            ++ u8 s.lnk.divisor ++ u8 (s.dsp.heat * 100 / (s.cal.resCapKj * 10000))
            ++ u32 s.mdc.partTime.toNat ++ u16 s.rte.trim
        ∧ wearReport 0 s = counter 0 ++ counter 1 ++ counter 2 ++ counter 3
        ∧ wearReport 4 s = counter 4 ++ counter 5 ++ counter 6 ++ counter 7
        ∧ predictReport s = predicted 0 ++ predicted 1 ++ predicted 2 ++ predicted 3 ++ u16 (s.wru.kmAcc / 1000)
        ∧ routeReport s =
          (match s.rte.plan with
            | none => [0, 0, 0, 0, 0, 0, 0, 0]
            | some p =>
              u8 1 ++ u8 p.first ++ u8 p.last ++ u8 p.start ++ u8 (dirCode p.dir)
                ++ u8 (match p.endAction with | .stop => 0 | .turn => 1 | .wrap => 2) ++ u8 p.wrap ++ u8 p.laps)
            ++ u8 (cursorCode s.rte.cursor) ++ u8 s.rte.index ++ u8 (dirCode s.rte.dir) ++ u8 s.rte.laps
            ++ u32 s.rte.remaining ++ u32 s.rte.raw ++ u16 offered.socTarget
            ++ u16 (match offered.qd with | none => 65535 | some mm => min 65534 (mm / 1000))
            ++ u16 (min 65535 offered.r) ++ u16 (min 65535 offered.d) ++ u16 offered.floorQ
        ∧ startsReport 0 s = starts 0 ∧ startsReport 6 s = starts 6
        ∧ mapReport s =
          u8 (match s.env.port with | .idle => 0 | .imageRead => 1 | .fill => 2)
            ++ u16 (match s.env.pendingKey with | none => 65535 | some k => k.i * 256 + k.j)
            ++ cached 0 ++ cached 1 ++ cached 2 ++ cached 3 ++ cached 4 ++ cached 5 ++ cached 6 ++ cached 7)
  ∧ (∀ (type : Byte) (payload : List Byte) (d : DispatchMsg) (e : Byte) (st : Status) (op : OpState) (n : Nat) (v : EventRec)
      (s : State),
      (frameBytes type payload).length = payload.length + 5
        ∧ d.body.length = 33 ∧ (Answer.reply e st op n).body.length = 5 ∧ v.bytes.length = 8
        ∧ (statusReport s).length = 17 ∧ (wearReport 0 s).length = 24 ∧ (wearReport 4 s).length = 24
        ∧ (predictReport s).length = 22 ∧ (routeReport s).length = 30 ∧ (startsReport 0 s).length = 33
        ∧ (startsReport 6 s).length = 33 ∧ (mapReport s).length = 43)

/-- R173, Table 9-1: MDC's own answers. A frame of unknown type is answered UNKNOWN_TYPE, and a request of wrong length
BAD_LENGTH with the received length, whatever waits at other blocks, and nothing else changes; the row that takes a QUERY of
wrong length is log entry 10. R156: in LOADING, while RESTART is pending, with a full reply queue and with an empty intake
queue, no frame is taken and a request row changes nothing (log entry 3). Derived (log entry 22): a request of right length
changes nothing while a block that takes it has not taken what R45, R48, R98, R104, R155 or R159 puts ahead of it. -/
def Obligations.MdcAnswers : Prop :=
  (∀ (s : State) (type : Byte) (p : List Byte) (rest : List Frame), Serves s ⟨type, p⟩ rest →
      (knownType type = false → exec .unknownType s = .next (s.answered rest (.reply type .unknownType s.mdc.op 0)))
        ∧ (lengthOk ⟨type, p⟩ = false →
            let answered := fun (i : Instr) =>
              exec i s = .next (s.answered rest (.reply type .badLength s.mdc.op p.length))
            (∀ r ∈ [((0x10#8), Instr.demand), (0x20, .start), (0x21, .halt), (0x22, .restart), (0x23, .faultClear),
              (0x30, .calWrite), (0x31, .calRead), (0x40, .routeLoad), (0x41, .routeArm), (0x42, .routeDepart),
              (0x43, .routeSync), (0x44, .routeClear), (0x50, .mapFlush), (0x60, .wearSeed), (0x61, .wearService)],
              type = r.1 → answered r.2)
            ∧ (type = 0x70 →
              (∀ r ∈ [((0#8), Instr.queryStatus), (1, .queryWearA), (2, .queryWearB), (3, .queryPredict), (4, .queryRoute),
                (5, .queryStartsA), (6, .queryStartsB), (7, .queryMap)], p.head? = some r.1 → answered r.2)
              ∧ (p = [] → answered .queryUnknownTopic)
              ∧ (∀ b, p.head? = some b → 7 < b.toNat → answered .queryUnknownTopic))))
  ∧ (∀ (type : Byte) (p : List Byte),
      (knownType type = true ↔
          type ∈ [0x10#8, 0x20, 0x21, 0x22, 0x23, 0x30, 0x31, 0x40, 0x41, 0x42, 0x43, 0x44, 0x50, 0x60, 0x61, 0x70])
        ∧ (∀ r ∈ [((0x10#8), 19), (0x20, 0), (0x21, 0), (0x22, 0), (0x23, 1), (0x30, 5), (0x31, 1), (0x41, 7), (0x42, 0),
            (0x43, 2), (0x44, 0), (0x50, 0), (0x60, 32), (0x61, 1), (0x70, 1)],
            (lengthOk ⟨r.1, p⟩ = true ↔ p.length = r.2))
        ∧ (lengthOk ⟨0x40, p⟩ = true ↔ ∃ first count tail, p = first :: count :: tail ∧ tail.length = 6 * count.toNat))
  ∧ (∀ s : State,
      (s.mdc.op = .loading ∨ s.mdc.restartPending = true ∨ 4 ≤ s.lnk.replies.length ∨ s.lnk.intake = []) →
      ∀ i ∈ [Instr.demand, .start, .halt, .restart, .faultClear, .calWrite, .calRead, .routeLoad, .routeArm, .routeDepart,
        .routeSync, .routeClear, .mapFlush, .wearSeed, .wearService, .queryStatus, .queryWearA, .queryWearB, .queryPredict,
        .queryRoute, .queryStartsA, .queryStartsB, .queryMap, .queryUnknownTopic, .unknownType],
        exec i s = .next s)
  ∧ (∀ (s : State) (f : Frame) (rest : List Frame), Serves s f rest → lengthOk f = true →
      let waits := fun (i : Instr) => exec i s = .next s
      (s.mail.heatIn ≠ [] ∨ s.mail.loadEndDsp = true → waits .demand)
        ∧ (s.mdc.op = .config → s.cal.firstFailure = none → s.mail.loadEndDsp = true ∨ s.mail.loadEndWru = true →
            waits .start)
        ∧ (s.mdc.op = .active → s.mail.engIn ≠ [] ∨ s.mail.rteIn ≠ [] → waits .halt)
        ∧ (s.mdc.op = .config → byteAt f.payload 0 = 26 ∨ byteAt f.payload 0 = 27 → s.mail.heatIn ≠ [] → waits .calWrite)
        ∧ (s.mdc.op = .config → byteAt f.payload 0 = 27 → s.mail.loadEndDsp = true → waits .calWrite)
        ∧ (s.mdc.op = .config → byteAt f.payload 0 = 28 → s.mail.wruIn ≠ [] → waits .calWrite)
        ∧ (s.mdc.op = .config → 96 ≤ byteAt f.payload 0 → byteAt f.payload 0 ≤ 119 → s.mail.loadEndWru = true →
            waits .calWrite)
        ∧ (s.mail.loadEndWru = true →
            waits .wearSeed ∧ waits .wearService ∧ waits .queryStatus ∧ waits .queryWearA ∧ waits .queryWearB
              ∧ waits .queryPredict)
        ∧ (s.mail.loadEndDsp = true → waits .queryStatus))

/-! ## What every step keeps -/

/-- Every invariant of Safety.lean holds at the reset state. -/
def Obligations.ResetMeetsInvariants : Prop :=
  ControlInv State.reset ∧ State.reset.env.Inv ∧ RouteInv State.reset ∧ WearInv State.reset ∧ State.reset.eng.Inv
    ∧ State.reset.ntu.Inv ∧ State.reset.lnk.Inv

/-- R6 to R8, R31, R45, R51, R154, R157: what MDC and DSP keep. -/
def Obligations.ControlKept : Prop :=
  ∀ s t : State, ControlInv s → step s = .next t → ControlInv t

/-- Derived. R75, with R51, R52, R55, R61, R65, R66 and R68: what the map cache keeps, the model's own mark afterRead included
(log entry 34). -/
def Obligations.CacheKept : Prop :=
  ∀ s t : State, s.env.Inv → step s = .next t → t.env.Inv

/-- R110, R113, with R105 to R108, R112, R120, R123 and R145: what RTE and the km accumulator keep. -/
def Obligations.RouteKept : Prop :=
  ∀ s t : State, RouteInv s → step s = .next t → RouteInv t

/-- R135, with R134, R136, R140, R143, R144 and R146: what WRU keeps. R139, R140: after every step every level of a SEEDED part
is that of its thresholds, but between the end of LOADING and WRU's taking of it; Table 6-5: the lamp pattern is that of the
seeded status and the highest level. The grade of a value and the pattern of a set of levels, as every other statement on WRU
uses them. -/
def Obligations.WearKept : Prop :=
  (∀ s t : State, WearInv s → step s = .next t →
      WearInv t
        ∧ (t.wru.seeded = true → t.mail.loadEndWru = false → ∀ c < 8,
            let threshold := fun (l : Nat) => (t.mdc.cal.get (96 + 3 * c + l)).toNat
            let reached := fun (l : Nat) => threshold l ≠ 0 ∧ threshold l ≤ (t.wru.counter c).value
            ((t.wru.counter c).level = .limit ↔ reached 2)
              ∧ ((t.wru.counter c).level = .service ↔ ¬reached 2 ∧ reached 1)
              ∧ ((t.wru.counter c).level = .advisory ↔ ¬reached 2 ∧ ¬reached 1 ∧ reached 0))
        ∧ (t.wru.seeded = false → t.wru.pattern = .off ∧ ∀ c < 8, (t.wru.counter c).level = .none)
        ∧ (t.wru.seeded = true →
            (t.wru.pattern = .flash ↔ ∃ c < 8, (t.wru.counter c).level = .limit)
              ∧ (t.wru.pattern = .steady ↔
                (∃ c < 8, (t.wru.counter c).level = .service) ∧ ∀ c < 8, (t.wru.counter c).level ≠ .limit)))
  ∧ (∀ (cal : Cal) (c value : Nat),
      let threshold := fun (l : Nat) => (cal.get (96 + 3 * c + l)).toNat
      let reached := fun (l : Nat) => threshold l ≠ 0 ∧ threshold l ≤ value
      (gradeOf cal c value = .limit ↔ reached 2)
        ∧ (gradeOf cal c value = .service ↔ ¬reached 2 ∧ reached 1)
        ∧ (gradeOf cal c value = .advisory ↔ ¬reached 2 ∧ ¬reached 1 ∧ reached 0))
  ∧ (∀ w : Wru,
      (lampPatternFor w = .flash ↔ w.seeded = true ∧ ∃ c < 8, (w.counter c).level = .limit)
        ∧ (lampPatternFor w = .steady ↔
          w.seeded = true ∧ (∃ c < 8, (w.counter c).level = .service) ∧ ∀ c < 8, (w.counter c).level ≠ .limit))

/-- R83, R89, R93, R100, R101: what ENG keeps. -/
def Obligations.EngineKept : Prop :=
  ∀ s t : State, s.eng.Inv → step s = .next t → t.eng.Inv

/-- R180 to R182: what NTU keeps. R184: event accounting, step by step. Every step leaves the event queue and LOST as they are,
and only adds to the records raised; or takes one raised record, the oldest of its block, which joins the queue as its newest,
or is discarded with LOST set where the queue holds sixteen; or builds one NOTICE, which carries the oldest records, at most
six, and LOST, and they leave the queue; or is a RESTART taking effect, a power-on or a RESETN, which empties the queue. With
`Ntu.Inv`, LOST stands only while a NOTICE is due, which will carry it. -/
def Obligations.NoticesKept : Prop :=
  ∀ s t : State, s.ntu.Inv → step s = .next t →
    t.ntu.Inv
      ∧ ((t.ntu.queue = s.ntu.queue ∧ t.ntu.lost = s.ntu.lost ∧ ∃ new, t.mail.raised = s.mail.raised ++ new)
        ∨ (∃ pre src e post, s.mail.raised = pre ++ (src, e) :: post ∧ (∀ r ∈ pre, r.1 ≠ src)
            ∧ t.mail.raised = pre ++ post
            ∧ (s.ntu.queue.length < 16 → t.ntu.queue = s.ntu.queue ++ [e] ∧ t.ntu.lost = s.ntu.lost)
            ∧ (16 ≤ s.ntu.queue.length → t.ntu.queue = s.ntu.queue ∧ t.ntu.lost = true))
        ∨ (∃ records flags f, s.ntu.queue = records ++ t.ntu.queue ∧ 1 ≤ records.length ∧ records.length ≤ 6
            ∧ t.ntu.lost = false ∧ t.mail.raised = s.mail.raised
            ∧ f.bytes = frameBytes 0xC0
                ([flags, if s.ntu.lost then 1 else 0, BitVec.ofNat 8 records.length] ++ records.flatMap EventRec.bytes)
            ∧ s.lnk.waiting = none
            ∧ ((s.lnk.transmitting = none ∧ t.lnk.transmitting = some f)
              ∨ (s.lnk.transmitting ≠ none ∧ t.lnk.transmitting = s.lnk.transmitting ∧ t.lnk.waiting = some f)))
        ∨ (t.ntu = { queue := [], lost := false, timer := none, due := false }
            ∧ ∃ c rest, s.pending = c :: rest
              ∧ ((∃ straps, c = .powerOn straps ∨ c = .resetn straps)
                ∨ (c = .transmitEnd ∧ ∃ f, s.lnk.transmitting = some f ∧ f.restartReply = true))))

/-- R164 to R171: what LNK keeps. -/
def Obligations.LinkKept : Prop :=
  ∀ s t : State, s.lnk.Inv → step s = .next t → t.lnk.Inv
end

