-- ==== Sys2Proof/Laws/Calibration.lean ====
section
/-!
SUPPORT. Reading and writing the calibration set.
-/
namespace Sys2Proof.Machine

/-- The slot just written reads as written. -/
theorem Cal.get_set_same (c : Cal) (id : Nat) (v : Int) (h : id < 128) : (c.set id v).get id = v := by
  simp [Cal.get, Cal.set, h]

/-- A write leaves every other slot alone. -/
theorem Cal.get_set_other (c : Cal) (id id' : Nat) (v : Int) (h : id' ≠ id) : (c.set id v).get id' = c.get id' := by
  simp [Cal.get, Cal.set, Ne.symm h]

/-- The defaults, slot by slot (Table 7-4). -/
theorem Cal.get_defaults (id : Nat) (h : id < 128) : Cal.defaults.get id = calDefault id := by
  simp [Cal.get, Cal.defaults, h]

/-- Clamping twice is clamping once. -/
theorem clampInt_idem (lo hi v : Int) (h : lo ≤ hi) : clampInt lo hi (clampInt lo hi v) = clampInt lo hi v := by
  unfold clampInt; omega

/-- A clamped value lies in the range. -/
theorem clampInt_bounds (lo hi v : Int) (h : lo ≤ hi) : lo ≤ clampInt lo hi v ∧ clampInt lo hi v ≤ hi := by
  unfold clampInt; omega

end Sys2Proof.Machine
end

