-- ==== Sys2Proof/Laws/State.lean ====
section
/-!
SUPPORT. One lemma per field per update of the state, true by `rfl`, so that no proof unfolds a record update.
-/
namespace Sys2Proof.Machine

variable (s : State)

/-! ### The block `lnk` replaced -/

@[simp] theorem State.setLnk_lnk (x : Lnk) : (s.setLnk x).lnk = x := rfl
@[simp] theorem State.setLnk_mdc (x : Lnk) : (s.setLnk x).mdc = s.mdc := rfl
@[simp] theorem State.setLnk_dsp (x : Lnk) : (s.setLnk x).dsp = s.dsp := rfl
@[simp] theorem State.setLnk_env (x : Lnk) : (s.setLnk x).env = s.env := rfl
@[simp] theorem State.setLnk_eng (x : Lnk) : (s.setLnk x).eng = s.eng := rfl
@[simp] theorem State.setLnk_rte (x : Lnk) : (s.setLnk x).rte = s.rte := rfl
@[simp] theorem State.setLnk_wru (x : Lnk) : (s.setLnk x).wru = s.wru := rfl
@[simp] theorem State.setLnk_ntu (x : Lnk) : (s.setLnk x).ntu = s.ntu := rfl
@[simp] theorem State.setLnk_mail (x : Lnk) : (s.setLnk x).mail = s.mail := rfl
@[simp] theorem State.setLnk_pending (x : Lnk) : (s.setLnk x).pending = s.pending := rfl
@[simp] theorem State.setLnk_cal (x : Lnk) : (s.setLnk x).cal = s.cal := rfl
@[simp] theorem State.setLnk_now (x : Lnk) : (s.setLnk x).now = s.now := rfl
@[simp] theorem State.setLnk_setLnk (x y : Lnk) : (s.setLnk x).setLnk y = s.setLnk y := rfl
@[simp] theorem State.setLnk_self : s.setLnk s.lnk = s := rfl

/-! ### The block `mdc` replaced -/

@[simp] theorem State.setMdc_lnk (x : Mdc) : (s.setMdc x).lnk = s.lnk := rfl
@[simp] theorem State.setMdc_mdc (x : Mdc) : (s.setMdc x).mdc = x := rfl
@[simp] theorem State.setMdc_dsp (x : Mdc) : (s.setMdc x).dsp = s.dsp := rfl
@[simp] theorem State.setMdc_env (x : Mdc) : (s.setMdc x).env = s.env := rfl
@[simp] theorem State.setMdc_eng (x : Mdc) : (s.setMdc x).eng = s.eng := rfl
@[simp] theorem State.setMdc_rte (x : Mdc) : (s.setMdc x).rte = s.rte := rfl
@[simp] theorem State.setMdc_wru (x : Mdc) : (s.setMdc x).wru = s.wru := rfl
@[simp] theorem State.setMdc_ntu (x : Mdc) : (s.setMdc x).ntu = s.ntu := rfl
@[simp] theorem State.setMdc_mail (x : Mdc) : (s.setMdc x).mail = s.mail := rfl
@[simp] theorem State.setMdc_pending (x : Mdc) : (s.setMdc x).pending = s.pending := rfl
@[simp] theorem State.setMdc_cal (x : Mdc) : (s.setMdc x).cal = x.cal := rfl
@[simp] theorem State.setMdc_now (x : Mdc) : (s.setMdc x).now = x.partTime := rfl
@[simp] theorem State.setMdc_setMdc (x y : Mdc) : (s.setMdc x).setMdc y = s.setMdc y := rfl
@[simp] theorem State.setMdc_self : s.setMdc s.mdc = s := rfl

/-! ### The block `dsp` replaced -/

@[simp] theorem State.setDsp_lnk (x : Dsp) : (s.setDsp x).lnk = s.lnk := rfl
@[simp] theorem State.setDsp_mdc (x : Dsp) : (s.setDsp x).mdc = s.mdc := rfl
@[simp] theorem State.setDsp_dsp (x : Dsp) : (s.setDsp x).dsp = x := rfl
@[simp] theorem State.setDsp_env (x : Dsp) : (s.setDsp x).env = s.env := rfl
@[simp] theorem State.setDsp_eng (x : Dsp) : (s.setDsp x).eng = s.eng := rfl
@[simp] theorem State.setDsp_rte (x : Dsp) : (s.setDsp x).rte = s.rte := rfl
@[simp] theorem State.setDsp_wru (x : Dsp) : (s.setDsp x).wru = s.wru := rfl
@[simp] theorem State.setDsp_ntu (x : Dsp) : (s.setDsp x).ntu = s.ntu := rfl
@[simp] theorem State.setDsp_mail (x : Dsp) : (s.setDsp x).mail = s.mail := rfl
@[simp] theorem State.setDsp_pending (x : Dsp) : (s.setDsp x).pending = s.pending := rfl
@[simp] theorem State.setDsp_cal (x : Dsp) : (s.setDsp x).cal = s.cal := rfl
@[simp] theorem State.setDsp_now (x : Dsp) : (s.setDsp x).now = s.now := rfl
@[simp] theorem State.setDsp_setDsp (x y : Dsp) : (s.setDsp x).setDsp y = s.setDsp y := rfl
@[simp] theorem State.setDsp_self : s.setDsp s.dsp = s := rfl

/-! ### The block `env` replaced -/

@[simp] theorem State.setEnv_lnk (x : Env) : (s.setEnv x).lnk = s.lnk := rfl
@[simp] theorem State.setEnv_mdc (x : Env) : (s.setEnv x).mdc = s.mdc := rfl
@[simp] theorem State.setEnv_dsp (x : Env) : (s.setEnv x).dsp = s.dsp := rfl
@[simp] theorem State.setEnv_env (x : Env) : (s.setEnv x).env = x := rfl
@[simp] theorem State.setEnv_eng (x : Env) : (s.setEnv x).eng = s.eng := rfl
@[simp] theorem State.setEnv_rte (x : Env) : (s.setEnv x).rte = s.rte := rfl
@[simp] theorem State.setEnv_wru (x : Env) : (s.setEnv x).wru = s.wru := rfl
@[simp] theorem State.setEnv_ntu (x : Env) : (s.setEnv x).ntu = s.ntu := rfl
@[simp] theorem State.setEnv_mail (x : Env) : (s.setEnv x).mail = s.mail := rfl
@[simp] theorem State.setEnv_pending (x : Env) : (s.setEnv x).pending = s.pending := rfl
@[simp] theorem State.setEnv_cal (x : Env) : (s.setEnv x).cal = s.cal := rfl
@[simp] theorem State.setEnv_now (x : Env) : (s.setEnv x).now = s.now := rfl
@[simp] theorem State.setEnv_setEnv (x y : Env) : (s.setEnv x).setEnv y = s.setEnv y := rfl
@[simp] theorem State.setEnv_self : s.setEnv s.env = s := rfl

/-! ### The block `eng` replaced -/

@[simp] theorem State.setEng_lnk (x : Eng) : (s.setEng x).lnk = s.lnk := rfl
@[simp] theorem State.setEng_mdc (x : Eng) : (s.setEng x).mdc = s.mdc := rfl
@[simp] theorem State.setEng_dsp (x : Eng) : (s.setEng x).dsp = s.dsp := rfl
@[simp] theorem State.setEng_env (x : Eng) : (s.setEng x).env = s.env := rfl
@[simp] theorem State.setEng_eng (x : Eng) : (s.setEng x).eng = x := rfl
@[simp] theorem State.setEng_rte (x : Eng) : (s.setEng x).rte = s.rte := rfl
@[simp] theorem State.setEng_wru (x : Eng) : (s.setEng x).wru = s.wru := rfl
@[simp] theorem State.setEng_ntu (x : Eng) : (s.setEng x).ntu = s.ntu := rfl
@[simp] theorem State.setEng_mail (x : Eng) : (s.setEng x).mail = s.mail := rfl
@[simp] theorem State.setEng_pending (x : Eng) : (s.setEng x).pending = s.pending := rfl
@[simp] theorem State.setEng_cal (x : Eng) : (s.setEng x).cal = s.cal := rfl
@[simp] theorem State.setEng_now (x : Eng) : (s.setEng x).now = s.now := rfl
@[simp] theorem State.setEng_setEng (x y : Eng) : (s.setEng x).setEng y = s.setEng y := rfl
@[simp] theorem State.setEng_self : s.setEng s.eng = s := rfl

/-! ### The block `rte` replaced -/

@[simp] theorem State.setRte_lnk (x : Rte) : (s.setRte x).lnk = s.lnk := rfl
@[simp] theorem State.setRte_mdc (x : Rte) : (s.setRte x).mdc = s.mdc := rfl
@[simp] theorem State.setRte_dsp (x : Rte) : (s.setRte x).dsp = s.dsp := rfl
@[simp] theorem State.setRte_env (x : Rte) : (s.setRte x).env = s.env := rfl
@[simp] theorem State.setRte_eng (x : Rte) : (s.setRte x).eng = s.eng := rfl
@[simp] theorem State.setRte_rte (x : Rte) : (s.setRte x).rte = x := rfl
@[simp] theorem State.setRte_wru (x : Rte) : (s.setRte x).wru = s.wru := rfl
@[simp] theorem State.setRte_ntu (x : Rte) : (s.setRte x).ntu = s.ntu := rfl
@[simp] theorem State.setRte_mail (x : Rte) : (s.setRte x).mail = s.mail := rfl
@[simp] theorem State.setRte_pending (x : Rte) : (s.setRte x).pending = s.pending := rfl
@[simp] theorem State.setRte_cal (x : Rte) : (s.setRte x).cal = s.cal := rfl
@[simp] theorem State.setRte_now (x : Rte) : (s.setRte x).now = s.now := rfl
@[simp] theorem State.setRte_setRte (x y : Rte) : (s.setRte x).setRte y = s.setRte y := rfl
@[simp] theorem State.setRte_self : s.setRte s.rte = s := rfl

/-! ### The block `wru` replaced -/

@[simp] theorem State.setWru_lnk (x : Wru) : (s.setWru x).lnk = s.lnk := rfl
@[simp] theorem State.setWru_mdc (x : Wru) : (s.setWru x).mdc = s.mdc := rfl
@[simp] theorem State.setWru_dsp (x : Wru) : (s.setWru x).dsp = s.dsp := rfl
@[simp] theorem State.setWru_env (x : Wru) : (s.setWru x).env = s.env := rfl
@[simp] theorem State.setWru_eng (x : Wru) : (s.setWru x).eng = s.eng := rfl
@[simp] theorem State.setWru_rte (x : Wru) : (s.setWru x).rte = s.rte := rfl
@[simp] theorem State.setWru_wru (x : Wru) : (s.setWru x).wru = x := rfl
@[simp] theorem State.setWru_ntu (x : Wru) : (s.setWru x).ntu = s.ntu := rfl
@[simp] theorem State.setWru_mail (x : Wru) : (s.setWru x).mail = s.mail := rfl
@[simp] theorem State.setWru_pending (x : Wru) : (s.setWru x).pending = s.pending := rfl
@[simp] theorem State.setWru_cal (x : Wru) : (s.setWru x).cal = s.cal := rfl
@[simp] theorem State.setWru_now (x : Wru) : (s.setWru x).now = s.now := rfl
@[simp] theorem State.setWru_setWru (x y : Wru) : (s.setWru x).setWru y = s.setWru y := rfl
@[simp] theorem State.setWru_self : s.setWru s.wru = s := rfl

/-! ### The block `ntu` replaced -/

@[simp] theorem State.setNtu_lnk (x : Ntu) : (s.setNtu x).lnk = s.lnk := rfl
@[simp] theorem State.setNtu_mdc (x : Ntu) : (s.setNtu x).mdc = s.mdc := rfl
@[simp] theorem State.setNtu_dsp (x : Ntu) : (s.setNtu x).dsp = s.dsp := rfl
@[simp] theorem State.setNtu_env (x : Ntu) : (s.setNtu x).env = s.env := rfl
@[simp] theorem State.setNtu_eng (x : Ntu) : (s.setNtu x).eng = s.eng := rfl
@[simp] theorem State.setNtu_rte (x : Ntu) : (s.setNtu x).rte = s.rte := rfl
@[simp] theorem State.setNtu_wru (x : Ntu) : (s.setNtu x).wru = s.wru := rfl
@[simp] theorem State.setNtu_ntu (x : Ntu) : (s.setNtu x).ntu = x := rfl
@[simp] theorem State.setNtu_mail (x : Ntu) : (s.setNtu x).mail = s.mail := rfl
@[simp] theorem State.setNtu_pending (x : Ntu) : (s.setNtu x).pending = s.pending := rfl
@[simp] theorem State.setNtu_cal (x : Ntu) : (s.setNtu x).cal = s.cal := rfl
@[simp] theorem State.setNtu_now (x : Ntu) : (s.setNtu x).now = s.now := rfl
@[simp] theorem State.setNtu_setNtu (x y : Ntu) : (s.setNtu x).setNtu y = s.setNtu y := rfl
@[simp] theorem State.setNtu_self : s.setNtu s.ntu = s := rfl

/-! ### The block `mail` replaced -/

@[simp] theorem State.setMail_lnk (x : Mail) : (s.setMail x).lnk = s.lnk := rfl
@[simp] theorem State.setMail_mdc (x : Mail) : (s.setMail x).mdc = s.mdc := rfl
@[simp] theorem State.setMail_dsp (x : Mail) : (s.setMail x).dsp = s.dsp := rfl
@[simp] theorem State.setMail_env (x : Mail) : (s.setMail x).env = s.env := rfl
@[simp] theorem State.setMail_eng (x : Mail) : (s.setMail x).eng = s.eng := rfl
@[simp] theorem State.setMail_rte (x : Mail) : (s.setMail x).rte = s.rte := rfl
@[simp] theorem State.setMail_wru (x : Mail) : (s.setMail x).wru = s.wru := rfl
@[simp] theorem State.setMail_ntu (x : Mail) : (s.setMail x).ntu = s.ntu := rfl
@[simp] theorem State.setMail_mail (x : Mail) : (s.setMail x).mail = x := rfl
@[simp] theorem State.setMail_pending (x : Mail) : (s.setMail x).pending = s.pending := rfl
@[simp] theorem State.setMail_cal (x : Mail) : (s.setMail x).cal = s.cal := rfl
@[simp] theorem State.setMail_now (x : Mail) : (s.setMail x).now = s.now := rfl
@[simp] theorem State.setMail_setMail (x y : Mail) : (s.setMail x).setMail y = s.setMail y := rfl
@[simp] theorem State.setMail_self : s.setMail s.mail = s := rfl

/-! ### `raise` -/

@[simp] theorem raise_lnk (src : Block) (k : EventKind) (a b : Nat) : (raise src k a b s).lnk = s.lnk := rfl
@[simp] theorem raise_mdc (src : Block) (k : EventKind) (a b : Nat) : (raise src k a b s).mdc = s.mdc := rfl
@[simp] theorem raise_dsp (src : Block) (k : EventKind) (a b : Nat) : (raise src k a b s).dsp = s.dsp := rfl
@[simp] theorem raise_env (src : Block) (k : EventKind) (a b : Nat) : (raise src k a b s).env = s.env := rfl
@[simp] theorem raise_eng (src : Block) (k : EventKind) (a b : Nat) : (raise src k a b s).eng = s.eng := rfl
@[simp] theorem raise_rte (src : Block) (k : EventKind) (a b : Nat) : (raise src k a b s).rte = s.rte := rfl
@[simp] theorem raise_wru (src : Block) (k : EventKind) (a b : Nat) : (raise src k a b s).wru = s.wru := rfl
@[simp] theorem raise_ntu (src : Block) (k : EventKind) (a b : Nat) : (raise src k a b s).ntu = s.ntu := rfl
@[simp] theorem raise_mail (src : Block) (k : EventKind) (a b : Nat) : (raise src k a b s).mail = { s.mail with raised := s.mail.raised ++ [(src, { kind := k, a, b, time := s.now })] } := rfl
@[simp] theorem raise_pending (src : Block) (k : EventKind) (a b : Nat) : (raise src k a b s).pending = s.pending := rfl
@[simp] theorem raise_cal (src : Block) (k : EventKind) (a b : Nat) : (raise src k a b s).cal = s.cal := rfl
@[simp] theorem raise_now (src : Block) (k : EventKind) (a b : Nat) : (raise src k a b s).now = s.now := rfl

/-! ### `answer` -/

@[simp] theorem answer_lnk (a : Answer) : (answer a s).lnk = { s.lnk with replies := s.lnk.replies ++ [a] } := rfl
@[simp] theorem answer_mdc (a : Answer) : (answer a s).mdc = s.mdc := rfl
@[simp] theorem answer_dsp (a : Answer) : (answer a s).dsp = s.dsp := rfl
@[simp] theorem answer_env (a : Answer) : (answer a s).env = s.env := rfl
@[simp] theorem answer_eng (a : Answer) : (answer a s).eng = s.eng := rfl
@[simp] theorem answer_rte (a : Answer) : (answer a s).rte = s.rte := rfl
@[simp] theorem answer_wru (a : Answer) : (answer a s).wru = s.wru := rfl
@[simp] theorem answer_ntu (a : Answer) : (answer a s).ntu = s.ntu := rfl
@[simp] theorem answer_mail (a : Answer) : (answer a s).mail = s.mail := rfl
@[simp] theorem answer_pending (a : Answer) : (answer a s).pending = s.pending := rfl
@[simp] theorem answer_cal (a : Answer) : (answer a s).cal = s.cal := rfl
@[simp] theorem answer_now (a : Answer) : (answer a s).now = s.now := rfl

/-! ### `reply` -/

@[simp] theorem reply_lnk (e : Byte) (st : Status) (d : Nat) : (reply e st d s).lnk = { s.lnk with replies := s.lnk.replies ++ [.reply e st s.mdc.op d] } := rfl
@[simp] theorem reply_mdc (e : Byte) (st : Status) (d : Nat) : (reply e st d s).mdc = s.mdc := rfl
@[simp] theorem reply_dsp (e : Byte) (st : Status) (d : Nat) : (reply e st d s).dsp = s.dsp := rfl
@[simp] theorem reply_env (e : Byte) (st : Status) (d : Nat) : (reply e st d s).env = s.env := rfl
@[simp] theorem reply_eng (e : Byte) (st : Status) (d : Nat) : (reply e st d s).eng = s.eng := rfl
@[simp] theorem reply_rte (e : Byte) (st : Status) (d : Nat) : (reply e st d s).rte = s.rte := rfl
@[simp] theorem reply_wru (e : Byte) (st : Status) (d : Nat) : (reply e st d s).wru = s.wru := rfl
@[simp] theorem reply_ntu (e : Byte) (st : Status) (d : Nat) : (reply e st d s).ntu = s.ntu := rfl
@[simp] theorem reply_mail (e : Byte) (st : Status) (d : Nat) : (reply e st d s).mail = s.mail := rfl
@[simp] theorem reply_pending (e : Byte) (st : Status) (d : Nat) : (reply e st d s).pending = s.pending := rfl
@[simp] theorem reply_cal (e : Byte) (st : Status) (d : Nat) : (reply e st d s).cal = s.cal := rfl
@[simp] theorem reply_now (e : Byte) (st : Status) (d : Nat) : (reply e st d s).now = s.now := rfl

/-! ### `sendIncrement` -/

@[simp] theorem sendIncrement_lnk (c n : Nat) : (sendIncrement c n s).lnk = s.lnk := rfl
@[simp] theorem sendIncrement_mdc (c n : Nat) : (sendIncrement c n s).mdc = s.mdc := rfl
@[simp] theorem sendIncrement_dsp (c n : Nat) : (sendIncrement c n s).dsp = s.dsp := rfl
@[simp] theorem sendIncrement_env (c n : Nat) : (sendIncrement c n s).env = s.env := rfl
@[simp] theorem sendIncrement_eng (c n : Nat) : (sendIncrement c n s).eng = s.eng := rfl
@[simp] theorem sendIncrement_rte (c n : Nat) : (sendIncrement c n s).rte = s.rte := rfl
@[simp] theorem sendIncrement_wru (c n : Nat) : (sendIncrement c n s).wru = s.wru := rfl
@[simp] theorem sendIncrement_ntu (c n : Nat) : (sendIncrement c n s).ntu = s.ntu := rfl
@[simp] theorem sendIncrement_mail (c n : Nat) : (sendIncrement c n s).mail = { s.mail with incIn := s.mail.incIn ++ [(c, n)] } := rfl
@[simp] theorem sendIncrement_pending (c n : Nat) : (sendIncrement c n s).pending = s.pending := rfl
@[simp] theorem sendIncrement_cal (c n : Nat) : (sendIncrement c n s).cal = s.cal := rfl
@[simp] theorem sendIncrement_now (c n : Nat) : (sendIncrement c n s).now = s.now := rfl

/-! ### `tick` -/

@[simp] theorem tick_lnk : (tick s).lnk = { s.lnk with gapTimer := s.lnk.gapTimer.map fun left => left - 18432 } := rfl
@[simp] theorem tick_mdc : (tick s).mdc = { s.mdc with partTime := s.mdc.partTime + 1 } := rfl
@[simp] theorem tick_dsp : (tick s).dsp = s.dsp := rfl
@[simp] theorem tick_env : (tick s).env = s.env := rfl
@[simp] theorem tick_eng : (tick s).eng = s.eng := rfl
@[simp] theorem tick_rte : (tick s).rte = s.rte := rfl
@[simp] theorem tick_wru : (tick s).wru = s.wru := rfl
@[simp] theorem tick_ntu : (tick s).ntu = s.ntu := rfl
@[simp] theorem tick_mail : (tick s).mail = s.mail := rfl
@[simp] theorem tick_pending : (tick s).pending = s.pending := rfl
@[simp] theorem tick_cal : (tick s).cal = s.cal := rfl
@[simp] theorem tick_now : (tick s).now = s.now + 1 := rfl

end Sys2Proof.Machine
end

