-- ==== Sys2Proof/Laws/Events.lean ====
section
/-!
SUPPORT. Raising events, and MDC's taking of a frame.
-/
namespace Sys2Proof.Machine

/-- One event raised. -/
theorem raise_eq (src : Block) (k : EventKind) (a b : Nat) (s : State) : raise src k a b s = s.raising src [(k, a, b)] := rfl

/-- No event raised. -/
@[simp] theorem State.raising_nil (s : State) (src : Block) : s.raising src [] = s := by
  simp [State.raising]

/-- Events raised after others of the same block. -/
@[simp] theorem State.raising_raising (s : State) (src : Block) (l m : List (EventKind × Nat × Nat)) :
    (s.raising src l).raising src m = s.raising src (l ++ m) := by
  simp [State.raising]

/-- One event of one kind for each entry of a list. -/
theorem foldl_raise (src : Block) (k : EventKind) (a : Nat) (l : List Nat) (s : State) :
    l.foldl (fun s id => raise src k a id s) s = s.raising src (l.map fun id => (k, a, id)) := by
  induction l generalizing s with
  | nil => simp
  | cons x r ih => rw [List.foldl_cons, ih, raise_eq, State.raising_raising]; rfl

/-- A frame that may be served is taken by the row that selects it. -/
theorem takeFrame_serves {s : State} {f : Frame} {rest : List Frame} (h : Serves s f rest) (sel : Frame → Bool)
    (ready : Frame → State → Bool) (serve : Frame → State → State) (hs : sel f = true) (hr : ready f s = true) :
    takeFrame sel ready serve s = serve f (s.setLnk { s.lnk with intake := rest }) := by
  have hm : mayTake s = true := by
    simp [mayTake, h.operating, h.noRestart, h.room, Config.replyDepth]
  simp [takeFrame, h.intake, hm, hs, hr]

/-- A request of right type and length is served. -/
theorem takeRequest_serves {s : State} {f : Frame} {rest : List Frame} (h : Serves s f rest) (type : Byte)
    (ready : Frame → State → Bool) (serve : Frame → State → State) (ht : f.type = type) (hl : lengthOk f = true)
    (hr : ready f s = true) :
    takeRequest type ready serve s = serve f (s.setLnk { s.lnk with intake := rest }) := by
  rw [takeRequest, takeFrame_serves h _ _ _ (by simp [ht]) (by simp [readyChecked, hr])]
  simp [serveChecked, hl]

/-- A request of wrong length is answered by MDC, whatever waits at other blocks (R173). -/
theorem takeRequest_badLength {s : State} {f : Frame} {rest : List Frame} (h : Serves s f rest) (type : Byte)
    (ready : Frame → State → Bool) (serve : Frame → State → State) (ht : f.type = type) (hl : lengthOk f = false) :
    takeRequest type ready serve s = s.answered rest (.reply f.type .badLength s.mdc.op f.payload.length) := by
  rw [takeRequest, takeFrame_serves h _ _ _ (by simp [ht]) (by simp [readyChecked, hl])]
  simp [serveChecked, hl, reply, answer, State.setLnk, State.answered]

/-- A request of right length waits while its blocks have not taken what a rule puts ahead of it. -/
theorem takeRequest_waits {s : State} {f : Frame} {rest : List Frame} (h : Serves s f rest) (type : Byte)
    (ready : Frame → State → Bool) (serve : Frame → State → State) (hl : lengthOk f = true) (hr : ready f s = false) :
    takeRequest type ready serve s = s := by
  simp [takeRequest, takeFrame, h.intake, readyChecked, hl, hr]

/-- Where MDC takes no frame nothing changes. -/
theorem takeFrame_stays {s : State} (h : mayTake s = false) (sel : Frame → Bool) (ready : Frame → State → Bool)
    (serve : Frame → State → State) : takeFrame sel ready serve s = s := by
  unfold takeFrame
  split
  · rfl
  · simp [h]

/-- All that the taking of a frame can do: nothing, or the service of the oldest frame in the state without it. -/
theorem takeFrame_cases (sel : Frame → Bool) (ready : Frame → State → Bool) (serve : Frame → State → State) (s : State) :
    takeFrame sel ready serve s = s
      ∨ ∃ f rest, Serves s f rest ∧ sel f = true ∧ ready f s = true
          ∧ takeFrame sel ready serve s = serve f (s.setLnk { s.lnk with intake := rest }) := by
  unfold takeFrame
  split
  · exact .inl rfl
  · rename_i f rest hi
    split
    · rename_i h
      simp only [mayTake, Bool.and_eq_true, decide_eq_true_eq, Bool.not_eq_true', Config.replyDepth] at h
      exact .inr ⟨f, rest, ⟨hi, h.1.1.1.1, h.1.1.1.2, h.1.1.2⟩, h.1.2, h.2, rfl⟩
    · exact .inl rfl

/-- A request served is answered in the reply queue. -/
theorem reply_taken (s : State) (rest : List Frame) (e : Byte) (st : Status) (d : Nat) :
    reply e st d (s.setLnk { s.lnk with intake := rest }) = s.answered rest (.reply e st s.mdc.op d) := rfl

end Sys2Proof.Machine
end

