-- ==== Sys2Proof/Laws/Frames.lean ====
section
/-!
SUPPORT. For each shared operation, everything it leaves alone: the blocks, and the fields of what is in flight. `simp` uses each as
one rewrite per conjunct.
-/
namespace Sys2Proof.Machine

/-- Pruning changes ENG only. -/
@[simp] theorem prune_leaves (s : State) :
    (prune s).lnk = s.lnk ∧ (prune s).mdc = s.mdc ∧ (prune s).dsp = s.dsp ∧ (prune s).env = s.env
      ∧ (prune s).rte = s.rte ∧ (prune s).wru = s.wru ∧ (prune s).ntu = s.ntu ∧ (prune s).pending = s.pending
      ∧ (prune s).mail = s.mail ∧ (prune s).cal = s.cal ∧ (prune s).now = s.now := by
  simp [prune]

/-- A QUIET_BREACH changes ENG and raises. -/
@[simp] theorem quietBreach_leaves (a : Nat) (s : State) :
    (quietBreach a s).lnk = s.lnk ∧ (quietBreach a s).mdc = s.mdc ∧ (quietBreach a s).dsp = s.dsp
      ∧ (quietBreach a s).env = s.env ∧ (quietBreach a s).rte = s.rte ∧ (quietBreach a s).wru = s.wru
      ∧ (quietBreach a s).ntu = s.ntu ∧ (quietBreach a s).pending = s.pending
      ∧ (quietBreach a s).mail.heatIn = s.mail.heatIn ∧ (quietBreach a s).mail.rteIn = s.mail.rteIn
      ∧ (quietBreach a s).mail.engIn = s.mail.engIn ∧ (quietBreach a s).mail.wruIn = s.mail.wruIn
      ∧ (quietBreach a s).mail.kmIn = s.mail.kmIn ∧ (quietBreach a s).mail.incIn = s.mail.incIn
      ∧ (quietBreach a s).mail.loadEndDsp = s.mail.loadEndDsp ∧ (quietBreach a s).mail.loadEndWru = s.mail.loadEndWru
      ∧ (quietBreach a s).cal = s.cal ∧ (quietBreach a s).now = s.now := by
  unfold quietBreach; try dsimp only
  (repeat' split) <;> simp

/-- A refusal by the budget changes ENG and raises. -/
@[simp] theorem refuseByBudget_leaves (s : State) :
    (refuseByBudget s).lnk = s.lnk ∧ (refuseByBudget s).mdc = s.mdc ∧ (refuseByBudget s).dsp = s.dsp
      ∧ (refuseByBudget s).env = s.env ∧ (refuseByBudget s).rte = s.rte ∧ (refuseByBudget s).wru = s.wru
      ∧ (refuseByBudget s).ntu = s.ntu ∧ (refuseByBudget s).pending = s.pending
      ∧ (refuseByBudget s).mail.heatIn = s.mail.heatIn ∧ (refuseByBudget s).mail.rteIn = s.mail.rteIn
      ∧ (refuseByBudget s).mail.engIn = s.mail.engIn ∧ (refuseByBudget s).mail.wruIn = s.mail.wruIn
      ∧ (refuseByBudget s).mail.kmIn = s.mail.kmIn ∧ (refuseByBudget s).mail.incIn = s.mail.incIn
      ∧ (refuseByBudget s).mail.loadEndDsp = s.mail.loadEndDsp
      ∧ (refuseByBudget s).mail.loadEndWru = s.mail.loadEndWru ∧ (refuseByBudget s).cal = s.cal
      ∧ (refuseByBudget s).now = s.now := by
  unfold refuseByBudget; try dsimp only
  (repeat' split) <;> simp

/-- A start changes ENG, raises, and sends an increment. -/
@[simp] theorem startEngine_leaves (k : StartKind) (s : State) :
    (startEngine k s).lnk = s.lnk ∧ (startEngine k s).mdc = s.mdc ∧ (startEngine k s).dsp = s.dsp
      ∧ (startEngine k s).env = s.env ∧ (startEngine k s).rte = s.rte ∧ (startEngine k s).wru = s.wru
      ∧ (startEngine k s).ntu = s.ntu ∧ (startEngine k s).pending = s.pending
      ∧ (startEngine k s).mail.heatIn = s.mail.heatIn ∧ (startEngine k s).mail.rteIn = s.mail.rteIn
      ∧ (startEngine k s).mail.engIn = s.mail.engIn ∧ (startEngine k s).mail.wruIn = s.mail.wruIn
      ∧ (startEngine k s).mail.kmIn = s.mail.kmIn ∧ (startEngine k s).mail.loadEndDsp = s.mail.loadEndDsp
      ∧ (startEngine k s).mail.loadEndWru = s.mail.loadEndWru ∧ (startEngine k s).cal = s.cal
      ∧ (startEngine k s).now = s.now := by
  unfold startEngine; try dsimp only
  (repeat' split) <;> simp

/-- A stop changes ENG and raises. -/
@[simp] theorem stopEngine_leaves (c : StopCause) (s : State) :
    (stopEngine c s).lnk = s.lnk ∧ (stopEngine c s).mdc = s.mdc ∧ (stopEngine c s).dsp = s.dsp
      ∧ (stopEngine c s).env = s.env ∧ (stopEngine c s).rte = s.rte ∧ (stopEngine c s).wru = s.wru
      ∧ (stopEngine c s).ntu = s.ntu ∧ (stopEngine c s).pending = s.pending
      ∧ (stopEngine c s).mail.heatIn = s.mail.heatIn ∧ (stopEngine c s).mail.rteIn = s.mail.rteIn
      ∧ (stopEngine c s).mail.engIn = s.mail.engIn ∧ (stopEngine c s).mail.wruIn = s.mail.wruIn
      ∧ (stopEngine c s).mail.kmIn = s.mail.kmIn ∧ (stopEngine c s).mail.incIn = s.mail.incIn
      ∧ (stopEngine c s).mail.loadEndDsp = s.mail.loadEndDsp ∧ (stopEngine c s).mail.loadEndWru = s.mail.loadEndWru
      ∧ (stopEngine c s).cal = s.cal ∧ (stopEngine c s).now = s.now := by
  unfold stopEngine; try dsimp only
  simp

/-- A hot stop changes ENG, raises, and sends an increment. -/
@[simp] theorem hotStop_leaves (c : StopCause) (s : State) :
    (hotStop c s).lnk = s.lnk ∧ (hotStop c s).mdc = s.mdc ∧ (hotStop c s).dsp = s.dsp ∧ (hotStop c s).env = s.env
      ∧ (hotStop c s).rte = s.rte ∧ (hotStop c s).wru = s.wru ∧ (hotStop c s).ntu = s.ntu
      ∧ (hotStop c s).pending = s.pending ∧ (hotStop c s).mail.heatIn = s.mail.heatIn
      ∧ (hotStop c s).mail.rteIn = s.mail.rteIn ∧ (hotStop c s).mail.engIn = s.mail.engIn
      ∧ (hotStop c s).mail.wruIn = s.mail.wruIn ∧ (hotStop c s).mail.kmIn = s.mail.kmIn
      ∧ (hotStop c s).mail.loadEndDsp = s.mail.loadEndDsp ∧ (hotStop c s).mail.loadEndWru = s.mail.loadEndWru
      ∧ (hotStop c s).cal = s.cal ∧ (hotStop c s).now = s.now := by
  unfold hotStop; try dsimp only
  simp

/-- The catching of the engine changes ENG and raises. -/
@[simp] theorem engineCaught_leaves (s : State) :
    (engineCaught s).lnk = s.lnk ∧ (engineCaught s).mdc = s.mdc ∧ (engineCaught s).dsp = s.dsp
      ∧ (engineCaught s).env = s.env ∧ (engineCaught s).rte = s.rte ∧ (engineCaught s).wru = s.wru
      ∧ (engineCaught s).ntu = s.ntu ∧ (engineCaught s).pending = s.pending
      ∧ (engineCaught s).mail.heatIn = s.mail.heatIn ∧ (engineCaught s).mail.rteIn = s.mail.rteIn
      ∧ (engineCaught s).mail.engIn = s.mail.engIn ∧ (engineCaught s).mail.wruIn = s.mail.wruIn
      ∧ (engineCaught s).mail.kmIn = s.mail.kmIn ∧ (engineCaught s).mail.incIn = s.mail.incIn
      ∧ (engineCaught s).mail.loadEndDsp = s.mail.loadEndDsp ∧ (engineCaught s).mail.loadEndWru = s.mail.loadEndWru
      ∧ (engineCaught s).cal = s.cal ∧ (engineCaught s).now = s.now := by
  unfold engineCaught; try dsimp only
  (repeat' split) <;> simp

/-- What follows a failure changes ENG and raises. -/
@[simp] theorem afterFailure_leaves (a : Nat) (s : State) :
    (afterFailure a s).lnk = s.lnk ∧ (afterFailure a s).mdc = s.mdc ∧ (afterFailure a s).dsp = s.dsp
      ∧ (afterFailure a s).env = s.env ∧ (afterFailure a s).rte = s.rte ∧ (afterFailure a s).wru = s.wru
      ∧ (afterFailure a s).ntu = s.ntu ∧ (afterFailure a s).pending = s.pending
      ∧ (afterFailure a s).mail.heatIn = s.mail.heatIn ∧ (afterFailure a s).mail.rteIn = s.mail.rteIn
      ∧ (afterFailure a s).mail.engIn = s.mail.engIn ∧ (afterFailure a s).mail.wruIn = s.mail.wruIn
      ∧ (afterFailure a s).mail.kmIn = s.mail.kmIn ∧ (afterFailure a s).mail.incIn = s.mail.incIn
      ∧ (afterFailure a s).mail.loadEndDsp = s.mail.loadEndDsp
      ∧ (afterFailure a s).mail.loadEndWru = s.mail.loadEndWru ∧ (afterFailure a s).cal = s.cal
      ∧ (afterFailure a s).now = s.now := by
  unfold afterFailure; try dsimp only
  (repeat' split) <;> simp

/-- A stall changes ENG and raises. -/
@[simp] theorem stall_leaves (b : Bool) (s : State) :
    (stall b s).lnk = s.lnk ∧ (stall b s).mdc = s.mdc ∧ (stall b s).dsp = s.dsp ∧ (stall b s).env = s.env
      ∧ (stall b s).rte = s.rte ∧ (stall b s).wru = s.wru ∧ (stall b s).ntu = s.ntu ∧ (stall b s).pending = s.pending
      ∧ (stall b s).mail.heatIn = s.mail.heatIn ∧ (stall b s).mail.rteIn = s.mail.rteIn
      ∧ (stall b s).mail.engIn = s.mail.engIn ∧ (stall b s).mail.wruIn = s.mail.wruIn
      ∧ (stall b s).mail.kmIn = s.mail.kmIn ∧ (stall b s).mail.incIn = s.mail.incIn
      ∧ (stall b s).mail.loadEndDsp = s.mail.loadEndDsp ∧ (stall b s).mail.loadEndWru = s.mail.loadEndWru
      ∧ (stall b s).cal = s.cal ∧ (stall b s).now = s.now := by
  unfold stall; try dsimp only
  simp

/-- Entry into COOLDOWN changes ENG only. -/
@[simp] theorem enterCooldown_leaves (s : State) :
    (enterCooldown s).lnk = s.lnk ∧ (enterCooldown s).mdc = s.mdc ∧ (enterCooldown s).dsp = s.dsp
      ∧ (enterCooldown s).env = s.env ∧ (enterCooldown s).rte = s.rte ∧ (enterCooldown s).wru = s.wru
      ∧ (enterCooldown s).ntu = s.ntu ∧ (enterCooldown s).pending = s.pending ∧ (enterCooldown s).mail = s.mail
      ∧ (enterCooldown s).cal = s.cal ∧ (enterCooldown s).now = s.now := by
  unfold enterCooldown; try dsimp only
  simp

/-- The return to RUNNING changes ENG only. -/
@[simp] theorem resumeRunning_leaves (s : State) :
    (resumeRunning s).lnk = s.lnk ∧ (resumeRunning s).mdc = s.mdc ∧ (resumeRunning s).dsp = s.dsp
      ∧ (resumeRunning s).env = s.env ∧ (resumeRunning s).rte = s.rte ∧ (resumeRunning s).wru = s.wru
      ∧ (resumeRunning s).ntu = s.ntu ∧ (resumeRunning s).pending = s.pending ∧ (resumeRunning s).mail = s.mail
      ∧ (resumeRunning s).cal = s.cal ∧ (resumeRunning s).now = s.now := by
  unfold resumeRunning; try dsimp only
  simp

/-- Stopping the stop-hold timer changes ENG only. -/
@[simp] theorem clearStopHold_leaves (s : State) :
    (clearStopHold s).lnk = s.lnk ∧ (clearStopHold s).mdc = s.mdc ∧ (clearStopHold s).dsp = s.dsp
      ∧ (clearStopHold s).env = s.env ∧ (clearStopHold s).rte = s.rte ∧ (clearStopHold s).wru = s.wru
      ∧ (clearStopHold s).ntu = s.ntu ∧ (clearStopHold s).pending = s.pending ∧ (clearStopHold s).mail = s.mail
      ∧ (clearStopHold s).cal = s.cal ∧ (clearStopHold s).now = s.now := by
  unfold clearStopHold; try dsimp only
  simp

/-- Setting the forced mark changes ENG only. -/
@[simp] theorem markForced_leaves (b : Bool) (s : State) :
    (markForced b s).lnk = s.lnk ∧ (markForced b s).mdc = s.mdc ∧ (markForced b s).dsp = s.dsp
      ∧ (markForced b s).env = s.env ∧ (markForced b s).rte = s.rte ∧ (markForced b s).wru = s.wru
      ∧ (markForced b s).ntu = s.ntu ∧ (markForced b s).pending = s.pending ∧ (markForced b s).mail = s.mail
      ∧ (markForced b s).cal = s.cal ∧ (markForced b s).now = s.now := by
  unfold markForced; try dsimp only
  simp

/-- An evaluation changes ENG, raises, and may send increments. -/
@[simp] theorem evalStopped_leaves (x : ResultRecord) (s : State) :
    (evalStopped x s).lnk = s.lnk ∧ (evalStopped x s).mdc = s.mdc ∧ (evalStopped x s).dsp = s.dsp
      ∧ (evalStopped x s).env = s.env ∧ (evalStopped x s).rte = s.rte ∧ (evalStopped x s).wru = s.wru
      ∧ (evalStopped x s).ntu = s.ntu ∧ (evalStopped x s).pending = s.pending
      ∧ (evalStopped x s).mail.heatIn = s.mail.heatIn ∧ (evalStopped x s).mail.rteIn = s.mail.rteIn
      ∧ (evalStopped x s).mail.engIn = s.mail.engIn ∧ (evalStopped x s).mail.wruIn = s.mail.wruIn
      ∧ (evalStopped x s).mail.kmIn = s.mail.kmIn ∧ (evalStopped x s).mail.loadEndDsp = s.mail.loadEndDsp
      ∧ (evalStopped x s).mail.loadEndWru = s.mail.loadEndWru ∧ (evalStopped x s).cal = s.cal
      ∧ (evalStopped x s).now = s.now := by
  unfold evalStopped; try dsimp only
  (repeat' split) <;> simp

/-- An evaluation changes ENG, raises, and may send increments. -/
@[simp] theorem evalCranking_leaves (x : ResultRecord) (s : State) :
    (evalCranking x s).lnk = s.lnk ∧ (evalCranking x s).mdc = s.mdc ∧ (evalCranking x s).dsp = s.dsp
      ∧ (evalCranking x s).env = s.env ∧ (evalCranking x s).rte = s.rte ∧ (evalCranking x s).wru = s.wru
      ∧ (evalCranking x s).ntu = s.ntu ∧ (evalCranking x s).pending = s.pending
      ∧ (evalCranking x s).mail.heatIn = s.mail.heatIn ∧ (evalCranking x s).mail.rteIn = s.mail.rteIn
      ∧ (evalCranking x s).mail.engIn = s.mail.engIn ∧ (evalCranking x s).mail.wruIn = s.mail.wruIn
      ∧ (evalCranking x s).mail.kmIn = s.mail.kmIn ∧ (evalCranking x s).mail.loadEndDsp = s.mail.loadEndDsp
      ∧ (evalCranking x s).mail.loadEndWru = s.mail.loadEndWru ∧ (evalCranking x s).cal = s.cal
      ∧ (evalCranking x s).now = s.now := by
  unfold evalCranking; try dsimp only
  (repeat' split) <;> simp

/-- An evaluation changes ENG, raises, and may send increments. -/
@[simp] theorem evalPause_leaves (x : ResultRecord) (s : State) :
    (evalPause x s).lnk = s.lnk ∧ (evalPause x s).mdc = s.mdc ∧ (evalPause x s).dsp = s.dsp
      ∧ (evalPause x s).env = s.env ∧ (evalPause x s).rte = s.rte ∧ (evalPause x s).wru = s.wru
      ∧ (evalPause x s).ntu = s.ntu ∧ (evalPause x s).pending = s.pending
      ∧ (evalPause x s).mail.heatIn = s.mail.heatIn ∧ (evalPause x s).mail.rteIn = s.mail.rteIn
      ∧ (evalPause x s).mail.engIn = s.mail.engIn ∧ (evalPause x s).mail.wruIn = s.mail.wruIn
      ∧ (evalPause x s).mail.kmIn = s.mail.kmIn ∧ (evalPause x s).mail.loadEndDsp = s.mail.loadEndDsp
      ∧ (evalPause x s).mail.loadEndWru = s.mail.loadEndWru ∧ (evalPause x s).cal = s.cal
      ∧ (evalPause x s).now = s.now := by
  unfold evalPause; try dsimp only
  (repeat' split) <;> simp

/-- An evaluation changes ENG, raises, and may send increments. -/
@[simp] theorem evalWarmup_leaves (x : ResultRecord) (s : State) :
    (evalWarmup x s).lnk = s.lnk ∧ (evalWarmup x s).mdc = s.mdc ∧ (evalWarmup x s).dsp = s.dsp
      ∧ (evalWarmup x s).env = s.env ∧ (evalWarmup x s).rte = s.rte ∧ (evalWarmup x s).wru = s.wru
      ∧ (evalWarmup x s).ntu = s.ntu ∧ (evalWarmup x s).pending = s.pending
      ∧ (evalWarmup x s).mail.heatIn = s.mail.heatIn ∧ (evalWarmup x s).mail.rteIn = s.mail.rteIn
      ∧ (evalWarmup x s).mail.engIn = s.mail.engIn ∧ (evalWarmup x s).mail.wruIn = s.mail.wruIn
      ∧ (evalWarmup x s).mail.kmIn = s.mail.kmIn ∧ (evalWarmup x s).mail.loadEndDsp = s.mail.loadEndDsp
      ∧ (evalWarmup x s).mail.loadEndWru = s.mail.loadEndWru ∧ (evalWarmup x s).cal = s.cal
      ∧ (evalWarmup x s).now = s.now := by
  unfold evalWarmup; try dsimp only
  (repeat' split) <;> simp

/-- An evaluation changes ENG, raises, and may send increments. -/
@[simp] theorem evalRunning_leaves (x : ResultRecord) (s : State) :
    (evalRunning x s).lnk = s.lnk ∧ (evalRunning x s).mdc = s.mdc ∧ (evalRunning x s).dsp = s.dsp
      ∧ (evalRunning x s).env = s.env ∧ (evalRunning x s).rte = s.rte ∧ (evalRunning x s).wru = s.wru
      ∧ (evalRunning x s).ntu = s.ntu ∧ (evalRunning x s).pending = s.pending
      ∧ (evalRunning x s).mail.heatIn = s.mail.heatIn ∧ (evalRunning x s).mail.rteIn = s.mail.rteIn
      ∧ (evalRunning x s).mail.engIn = s.mail.engIn ∧ (evalRunning x s).mail.wruIn = s.mail.wruIn
      ∧ (evalRunning x s).mail.kmIn = s.mail.kmIn ∧ (evalRunning x s).mail.loadEndDsp = s.mail.loadEndDsp
      ∧ (evalRunning x s).mail.loadEndWru = s.mail.loadEndWru ∧ (evalRunning x s).cal = s.cal
      ∧ (evalRunning x s).now = s.now := by
  unfold evalRunning; try dsimp only
  (repeat' split) <;> simp

/-- An evaluation changes ENG, raises, and may send increments. -/
@[simp] theorem evalCooldown_leaves (x : ResultRecord) (s : State) :
    (evalCooldown x s).lnk = s.lnk ∧ (evalCooldown x s).mdc = s.mdc ∧ (evalCooldown x s).dsp = s.dsp
      ∧ (evalCooldown x s).env = s.env ∧ (evalCooldown x s).rte = s.rte ∧ (evalCooldown x s).wru = s.wru
      ∧ (evalCooldown x s).ntu = s.ntu ∧ (evalCooldown x s).pending = s.pending
      ∧ (evalCooldown x s).mail.heatIn = s.mail.heatIn ∧ (evalCooldown x s).mail.rteIn = s.mail.rteIn
      ∧ (evalCooldown x s).mail.engIn = s.mail.engIn ∧ (evalCooldown x s).mail.wruIn = s.mail.wruIn
      ∧ (evalCooldown x s).mail.kmIn = s.mail.kmIn ∧ (evalCooldown x s).mail.loadEndDsp = s.mail.loadEndDsp
      ∧ (evalCooldown x s).mail.loadEndWru = s.mail.loadEndWru ∧ (evalCooldown x s).cal = s.cal
      ∧ (evalCooldown x s).now = s.now := by
  unfold evalCooldown; try dsimp only
  (repeat' split) <;> simp

/-- The beginning of an evaluation changes ENG only. -/
@[simp] theorem beginResult_leaves (x : ResultRecord) (s : State) :
    (beginResult x s).lnk = s.lnk ∧ (beginResult x s).mdc = s.mdc ∧ (beginResult x s).dsp = s.dsp
      ∧ (beginResult x s).env = s.env ∧ (beginResult x s).rte = s.rte ∧ (beginResult x s).wru = s.wru
      ∧ (beginResult x s).ntu = s.ntu ∧ (beginResult x s).pending = s.pending ∧ (beginResult x s).mail = s.mail
      ∧ (beginResult x s).cal = s.cal ∧ (beginResult x s).now = s.now := by
  unfold beginResult; try dsimp only
  simp

/-- ENG takes a record: it changes ENG, raises, and may send increments. -/
@[simp] theorem engTakes_leaves (x : ResultRecord) (s : State) :
    (engTakes x s).lnk = s.lnk ∧ (engTakes x s).mdc = s.mdc ∧ (engTakes x s).dsp = s.dsp ∧ (engTakes x s).env = s.env
      ∧ (engTakes x s).rte = s.rte ∧ (engTakes x s).wru = s.wru ∧ (engTakes x s).ntu = s.ntu
      ∧ (engTakes x s).pending = s.pending ∧ (engTakes x s).mail.heatIn = s.mail.heatIn
      ∧ (engTakes x s).mail.rteIn = s.mail.rteIn ∧ (engTakes x s).mail.engIn = s.mail.engIn
      ∧ (engTakes x s).mail.wruIn = s.mail.wruIn ∧ (engTakes x s).mail.kmIn = s.mail.kmIn
      ∧ (engTakes x s).mail.loadEndDsp = s.mail.loadEndDsp ∧ (engTakes x s).mail.loadEndWru = s.mail.loadEndWru
      ∧ (engTakes x s).cal = s.cal ∧ (engTakes x s).now = s.now := by
  unfold engTakes; try dsimp only
  split <;> simp

/-- ENG takes HALT: it changes ENG, raises, and may send an increment. -/
@[simp] theorem engHalt_leaves (s : State) :
    (engHalt s).lnk = s.lnk ∧ (engHalt s).mdc = s.mdc ∧ (engHalt s).dsp = s.dsp ∧ (engHalt s).env = s.env
      ∧ (engHalt s).rte = s.rte ∧ (engHalt s).wru = s.wru ∧ (engHalt s).ntu = s.ntu ∧ (engHalt s).pending = s.pending
      ∧ (engHalt s).mail.heatIn = s.mail.heatIn ∧ (engHalt s).mail.rteIn = s.mail.rteIn
      ∧ (engHalt s).mail.engIn = s.mail.engIn ∧ (engHalt s).mail.wruIn = s.mail.wruIn
      ∧ (engHalt s).mail.kmIn = s.mail.kmIn ∧ (engHalt s).mail.loadEndDsp = s.mail.loadEndDsp
      ∧ (engHalt s).mail.loadEndWru = s.mail.loadEndWru ∧ (engHalt s).cal = s.cal ∧ (engHalt s).now = s.now := by
  unfold engHalt; try dsimp only
  split <;> simp

/-- Setting a level changes WRU and raises. -/
@[simp] theorem setLevel_leaves (c : Nat) (l : Level) (s : State) :
    (setLevel c l s).lnk = s.lnk ∧ (setLevel c l s).mdc = s.mdc ∧ (setLevel c l s).dsp = s.dsp
      ∧ (setLevel c l s).env = s.env ∧ (setLevel c l s).eng = s.eng ∧ (setLevel c l s).rte = s.rte
      ∧ (setLevel c l s).ntu = s.ntu ∧ (setLevel c l s).pending = s.pending
      ∧ (setLevel c l s).mail.heatIn = s.mail.heatIn ∧ (setLevel c l s).mail.rteIn = s.mail.rteIn
      ∧ (setLevel c l s).mail.engIn = s.mail.engIn ∧ (setLevel c l s).mail.wruIn = s.mail.wruIn
      ∧ (setLevel c l s).mail.kmIn = s.mail.kmIn ∧ (setLevel c l s).mail.incIn = s.mail.incIn
      ∧ (setLevel c l s).mail.loadEndDsp = s.mail.loadEndDsp ∧ (setLevel c l s).mail.loadEndWru = s.mail.loadEndWru
      ∧ (setLevel c l s).cal = s.cal ∧ (setLevel c l s).now = s.now := by
  unfold setLevel; try dsimp only
  split <;> simp

/-- Grading a counter changes WRU and raises. -/
@[simp] theorem regrade_leaves (c : Nat) (s : State) :
    (regrade c s).lnk = s.lnk ∧ (regrade c s).mdc = s.mdc ∧ (regrade c s).dsp = s.dsp ∧ (regrade c s).env = s.env
      ∧ (regrade c s).eng = s.eng ∧ (regrade c s).rte = s.rte ∧ (regrade c s).ntu = s.ntu
      ∧ (regrade c s).pending = s.pending ∧ (regrade c s).mail.heatIn = s.mail.heatIn
      ∧ (regrade c s).mail.rteIn = s.mail.rteIn ∧ (regrade c s).mail.engIn = s.mail.engIn
      ∧ (regrade c s).mail.wruIn = s.mail.wruIn ∧ (regrade c s).mail.kmIn = s.mail.kmIn
      ∧ (regrade c s).mail.incIn = s.mail.incIn ∧ (regrade c s).mail.loadEndDsp = s.mail.loadEndDsp
      ∧ (regrade c s).mail.loadEndWru = s.mail.loadEndWru ∧ (regrade c s).cal = s.cal ∧ (regrade c s).now = s.now := by
  unfold regrade; try dsimp only
  simp

/-- Grading a counter in SEEDED changes WRU and raises. -/
@[simp] theorem regradeSeeded_leaves (c : Nat) (s : State) :
    (regradeSeeded c s).lnk = s.lnk ∧ (regradeSeeded c s).mdc = s.mdc ∧ (regradeSeeded c s).dsp = s.dsp
      ∧ (regradeSeeded c s).env = s.env ∧ (regradeSeeded c s).eng = s.eng ∧ (regradeSeeded c s).rte = s.rte
      ∧ (regradeSeeded c s).ntu = s.ntu ∧ (regradeSeeded c s).pending = s.pending
      ∧ (regradeSeeded c s).mail.heatIn = s.mail.heatIn ∧ (regradeSeeded c s).mail.rteIn = s.mail.rteIn
      ∧ (regradeSeeded c s).mail.engIn = s.mail.engIn ∧ (regradeSeeded c s).mail.wruIn = s.mail.wruIn
      ∧ (regradeSeeded c s).mail.kmIn = s.mail.kmIn ∧ (regradeSeeded c s).mail.incIn = s.mail.incIn
      ∧ (regradeSeeded c s).mail.loadEndDsp = s.mail.loadEndDsp
      ∧ (regradeSeeded c s).mail.loadEndWru = s.mail.loadEndWru ∧ (regradeSeeded c s).cal = s.cal
      ∧ (regradeSeeded c s).now = s.now := by
  unfold regradeSeeded; try dsimp only
  (repeat' split) <;> simp

/-- Grading all counters changes WRU and raises. -/
@[simp] theorem gradeAll_leaves (s : State) :
    (gradeAll s).lnk = s.lnk ∧ (gradeAll s).mdc = s.mdc ∧ (gradeAll s).dsp = s.dsp ∧ (gradeAll s).env = s.env
      ∧ (gradeAll s).eng = s.eng ∧ (gradeAll s).rte = s.rte ∧ (gradeAll s).ntu = s.ntu
      ∧ (gradeAll s).pending = s.pending ∧ (gradeAll s).mail.heatIn = s.mail.heatIn
      ∧ (gradeAll s).mail.rteIn = s.mail.rteIn ∧ (gradeAll s).mail.engIn = s.mail.engIn
      ∧ (gradeAll s).mail.wruIn = s.mail.wruIn ∧ (gradeAll s).mail.kmIn = s.mail.kmIn
      ∧ (gradeAll s).mail.incIn = s.mail.incIn ∧ (gradeAll s).mail.loadEndDsp = s.mail.loadEndDsp
      ∧ (gradeAll s).mail.loadEndWru = s.mail.loadEndWru ∧ (gradeAll s).cal = s.cal ∧ (gradeAll s).now = s.now := by
  simp [gradeAll, List.range_succ_eq_map]

/-- Setting the lamp changes WRU only. -/
@[simp] theorem setLamp_leaves (s : State) :
    (setLamp s).lnk = s.lnk ∧ (setLamp s).mdc = s.mdc ∧ (setLamp s).dsp = s.dsp ∧ (setLamp s).env = s.env
      ∧ (setLamp s).eng = s.eng ∧ (setLamp s).rte = s.rte ∧ (setLamp s).ntu = s.ntu ∧ (setLamp s).pending = s.pending
      ∧ (setLamp s).mail = s.mail ∧ (setLamp s).cal = s.cal ∧ (setLamp s).now = s.now := by
  unfold setLamp; try dsimp only
  split <;> simp

/-- A new counter value changes WRU and raises. -/
@[simp] theorem putCounter_leaves (c : Nat) (k : Counter) (u : Nat) (s : State) :
    (putCounter c k u s).lnk = s.lnk ∧ (putCounter c k u s).mdc = s.mdc ∧ (putCounter c k u s).dsp = s.dsp
      ∧ (putCounter c k u s).env = s.env ∧ (putCounter c k u s).eng = s.eng ∧ (putCounter c k u s).rte = s.rte
      ∧ (putCounter c k u s).ntu = s.ntu ∧ (putCounter c k u s).pending = s.pending
      ∧ (putCounter c k u s).mail.heatIn = s.mail.heatIn ∧ (putCounter c k u s).mail.rteIn = s.mail.rteIn
      ∧ (putCounter c k u s).mail.engIn = s.mail.engIn ∧ (putCounter c k u s).mail.wruIn = s.mail.wruIn
      ∧ (putCounter c k u s).mail.kmIn = s.mail.kmIn ∧ (putCounter c k u s).mail.incIn = s.mail.incIn
      ∧ (putCounter c k u s).mail.loadEndDsp = s.mail.loadEndDsp
      ∧ (putCounter c k u s).mail.loadEndWru = s.mail.loadEndWru ∧ (putCounter c k u s).cal = s.cal
      ∧ (putCounter c k u s).now = s.now := by
  unfold putCounter; try dsimp only
  split <;> simp

/-- An increment to a residue changes WRU and raises. -/
@[simp] theorem feedResidue_leaves (c u i : Nat) (s : State) :
    (feedResidue c u i s).lnk = s.lnk ∧ (feedResidue c u i s).mdc = s.mdc ∧ (feedResidue c u i s).dsp = s.dsp
      ∧ (feedResidue c u i s).env = s.env ∧ (feedResidue c u i s).eng = s.eng ∧ (feedResidue c u i s).rte = s.rte
      ∧ (feedResidue c u i s).ntu = s.ntu ∧ (feedResidue c u i s).pending = s.pending
      ∧ (feedResidue c u i s).mail.heatIn = s.mail.heatIn ∧ (feedResidue c u i s).mail.rteIn = s.mail.rteIn
      ∧ (feedResidue c u i s).mail.engIn = s.mail.engIn ∧ (feedResidue c u i s).mail.wruIn = s.mail.wruIn
      ∧ (feedResidue c u i s).mail.kmIn = s.mail.kmIn ∧ (feedResidue c u i s).mail.incIn = s.mail.incIn
      ∧ (feedResidue c u i s).mail.loadEndDsp = s.mail.loadEndDsp
      ∧ (feedResidue c u i s).mail.loadEndWru = s.mail.loadEndWru ∧ (feedResidue c u i s).cal = s.cal
      ∧ (feedResidue c u i s).now = s.now := by
  unfold feedResidue; try dsimp only
  split <;> simp

/-- An increment to a count changes WRU and raises. -/
@[simp] theorem feedCount_leaves (c n : Nat) (s : State) :
    (feedCount c n s).lnk = s.lnk ∧ (feedCount c n s).mdc = s.mdc ∧ (feedCount c n s).dsp = s.dsp
      ∧ (feedCount c n s).env = s.env ∧ (feedCount c n s).eng = s.eng ∧ (feedCount c n s).rte = s.rte
      ∧ (feedCount c n s).ntu = s.ntu ∧ (feedCount c n s).pending = s.pending
      ∧ (feedCount c n s).mail.heatIn = s.mail.heatIn ∧ (feedCount c n s).mail.rteIn = s.mail.rteIn
      ∧ (feedCount c n s).mail.engIn = s.mail.engIn ∧ (feedCount c n s).mail.wruIn = s.mail.wruIn
      ∧ (feedCount c n s).mail.kmIn = s.mail.kmIn ∧ (feedCount c n s).mail.incIn = s.mail.incIn
      ∧ (feedCount c n s).mail.loadEndDsp = s.mail.loadEndDsp ∧ (feedCount c n s).mail.loadEndWru = s.mail.loadEndWru
      ∧ (feedCount c n s).cal = s.cal ∧ (feedCount c n s).now = s.now := by
  unfold feedCount; try dsimp only
  split <;> simp

/-- A list of increments changes WRU and raises. -/
@[simp] theorem feedAll_leaves (l : List (Nat × Nat × Nat)) (s : State) :
    (l.foldl (fun s i => feedResidue i.1 i.2.1 i.2.2 s) s).lnk = s.lnk
      ∧ (l.foldl (fun s i => feedResidue i.1 i.2.1 i.2.2 s) s).mdc = s.mdc
      ∧ (l.foldl (fun s i => feedResidue i.1 i.2.1 i.2.2 s) s).dsp = s.dsp
      ∧ (l.foldl (fun s i => feedResidue i.1 i.2.1 i.2.2 s) s).env = s.env
      ∧ (l.foldl (fun s i => feedResidue i.1 i.2.1 i.2.2 s) s).eng = s.eng
      ∧ (l.foldl (fun s i => feedResidue i.1 i.2.1 i.2.2 s) s).rte = s.rte
      ∧ (l.foldl (fun s i => feedResidue i.1 i.2.1 i.2.2 s) s).ntu = s.ntu
      ∧ (l.foldl (fun s i => feedResidue i.1 i.2.1 i.2.2 s) s).pending = s.pending
      ∧ (l.foldl (fun s i => feedResidue i.1 i.2.1 i.2.2 s) s).mail.heatIn = s.mail.heatIn
      ∧ (l.foldl (fun s i => feedResidue i.1 i.2.1 i.2.2 s) s).mail.rteIn = s.mail.rteIn
      ∧ (l.foldl (fun s i => feedResidue i.1 i.2.1 i.2.2 s) s).mail.engIn = s.mail.engIn
      ∧ (l.foldl (fun s i => feedResidue i.1 i.2.1 i.2.2 s) s).mail.wruIn = s.mail.wruIn
      ∧ (l.foldl (fun s i => feedResidue i.1 i.2.1 i.2.2 s) s).mail.kmIn = s.mail.kmIn
      ∧ (l.foldl (fun s i => feedResidue i.1 i.2.1 i.2.2 s) s).mail.incIn = s.mail.incIn
      ∧ (l.foldl (fun s i => feedResidue i.1 i.2.1 i.2.2 s) s).mail.loadEndDsp = s.mail.loadEndDsp
      ∧ (l.foldl (fun s i => feedResidue i.1 i.2.1 i.2.2 s) s).mail.loadEndWru = s.mail.loadEndWru
      ∧ (l.foldl (fun s i => feedResidue i.1 i.2.1 i.2.2 s) s).cal = s.cal
      ∧ (l.foldl (fun s i => feedResidue i.1 i.2.1 i.2.2 s) s).now = s.now := by
  induction l generalizing s with
  | nil => simp
  | cons i r ih => simp [ih]

/-- WRU takes a record: it changes WRU and raises. -/
@[simp] theorem wruTakes_leaves (x : ResultRecord) (s : State) :
    (wruTakes x s).lnk = s.lnk ∧ (wruTakes x s).mdc = s.mdc ∧ (wruTakes x s).dsp = s.dsp ∧ (wruTakes x s).env = s.env
      ∧ (wruTakes x s).eng = s.eng ∧ (wruTakes x s).rte = s.rte ∧ (wruTakes x s).ntu = s.ntu
      ∧ (wruTakes x s).pending = s.pending ∧ (wruTakes x s).mail.heatIn = s.mail.heatIn
      ∧ (wruTakes x s).mail.rteIn = s.mail.rteIn ∧ (wruTakes x s).mail.engIn = s.mail.engIn
      ∧ (wruTakes x s).mail.wruIn = s.mail.wruIn ∧ (wruTakes x s).mail.kmIn = s.mail.kmIn
      ∧ (wruTakes x s).mail.incIn = s.mail.incIn ∧ (wruTakes x s).mail.loadEndDsp = s.mail.loadEndDsp
      ∧ (wruTakes x s).mail.loadEndWru = s.mail.loadEndWru ∧ (wruTakes x s).cal = s.cal ∧ (wruTakes x s).now = s.now := by
  unfold wruTakes; try dsimp only
  simp

/-- WRU takes an increment: it changes WRU and raises. -/
@[simp] theorem wruTakesIncrement_leaves (c n : Nat) (s : State) :
    (wruTakesIncrement c n s).lnk = s.lnk ∧ (wruTakesIncrement c n s).mdc = s.mdc
      ∧ (wruTakesIncrement c n s).dsp = s.dsp ∧ (wruTakesIncrement c n s).env = s.env
      ∧ (wruTakesIncrement c n s).eng = s.eng ∧ (wruTakesIncrement c n s).rte = s.rte
      ∧ (wruTakesIncrement c n s).ntu = s.ntu ∧ (wruTakesIncrement c n s).pending = s.pending
      ∧ (wruTakesIncrement c n s).mail.heatIn = s.mail.heatIn ∧ (wruTakesIncrement c n s).mail.rteIn = s.mail.rteIn
      ∧ (wruTakesIncrement c n s).mail.engIn = s.mail.engIn ∧ (wruTakesIncrement c n s).mail.wruIn = s.mail.wruIn
      ∧ (wruTakesIncrement c n s).mail.kmIn = s.mail.kmIn ∧ (wruTakesIncrement c n s).mail.incIn = s.mail.incIn
      ∧ (wruTakesIncrement c n s).mail.loadEndDsp = s.mail.loadEndDsp
      ∧ (wruTakesIncrement c n s).mail.loadEndWru = s.mail.loadEndWru ∧ (wruTakesIncrement c n s).cal = s.cal
      ∧ (wruTakesIncrement c n s).now = s.now := by
  unfold wruTakesIncrement; try dsimp only
  simp

/-- WRU takes a distance: it changes WRU only. -/
@[simp] theorem wruTakesDistance_leaves (d : Nat) (s : State) :
    (wruTakesDistance d s).lnk = s.lnk ∧ (wruTakesDistance d s).mdc = s.mdc ∧ (wruTakesDistance d s).dsp = s.dsp
      ∧ (wruTakesDistance d s).env = s.env ∧ (wruTakesDistance d s).eng = s.eng ∧ (wruTakesDistance d s).rte = s.rte
      ∧ (wruTakesDistance d s).ntu = s.ntu ∧ (wruTakesDistance d s).pending = s.pending
      ∧ (wruTakesDistance d s).mail = s.mail ∧ (wruTakesDistance d s).cal = s.cal ∧ (wruTakesDistance d s).now = s.now := by
  unfold wruTakesDistance; try dsimp only
  split <;> simp

/-- A threshold written changes WRU and raises. -/
@[simp] theorem gradeThreshold_leaves (id : Nat) (s : State) :
    (gradeThreshold id s).lnk = s.lnk ∧ (gradeThreshold id s).mdc = s.mdc ∧ (gradeThreshold id s).dsp = s.dsp
      ∧ (gradeThreshold id s).env = s.env ∧ (gradeThreshold id s).eng = s.eng ∧ (gradeThreshold id s).rte = s.rte
      ∧ (gradeThreshold id s).ntu = s.ntu ∧ (gradeThreshold id s).pending = s.pending
      ∧ (gradeThreshold id s).mail.heatIn = s.mail.heatIn ∧ (gradeThreshold id s).mail.rteIn = s.mail.rteIn
      ∧ (gradeThreshold id s).mail.engIn = s.mail.engIn ∧ (gradeThreshold id s).mail.wruIn = s.mail.wruIn
      ∧ (gradeThreshold id s).mail.kmIn = s.mail.kmIn ∧ (gradeThreshold id s).mail.incIn = s.mail.incIn
      ∧ (gradeThreshold id s).mail.loadEndDsp = s.mail.loadEndDsp
      ∧ (gradeThreshold id s).mail.loadEndWru = s.mail.loadEndWru ∧ (gradeThreshold id s).cal = s.cal
      ∧ (gradeThreshold id s).now = s.now := by
  unfold gradeThreshold; try dsimp only
  (repeat' split) <;> simp

/-- Entering a segment changes RTE and raises. -/
@[simp] theorem enterSegment_leaves (p : Plan) (k e : Nat) (s : State) :
    (enterSegment p k e s).lnk = s.lnk ∧ (enterSegment p k e s).mdc = s.mdc ∧ (enterSegment p k e s).dsp = s.dsp
      ∧ (enterSegment p k e s).env = s.env ∧ (enterSegment p k e s).eng = s.eng ∧ (enterSegment p k e s).wru = s.wru
      ∧ (enterSegment p k e s).ntu = s.ntu ∧ (enterSegment p k e s).pending = s.pending
      ∧ (enterSegment p k e s).mail.heatIn = s.mail.heatIn ∧ (enterSegment p k e s).mail.rteIn = s.mail.rteIn
      ∧ (enterSegment p k e s).mail.engIn = s.mail.engIn ∧ (enterSegment p k e s).mail.wruIn = s.mail.wruIn
      ∧ (enterSegment p k e s).mail.kmIn = s.mail.kmIn ∧ (enterSegment p k e s).mail.incIn = s.mail.incIn
      ∧ (enterSegment p k e s).mail.loadEndDsp = s.mail.loadEndDsp
      ∧ (enterSegment p k e s).mail.loadEndWru = s.mail.loadEndWru ∧ (enterSegment p k e s).cal = s.cal
      ∧ (enterSegment p k e s).now = s.now := by
  unfold enterSegment; try dsimp only
  split <;> simp

/-- The end of a plan changes RTE and raises. -/
@[simp] theorem endPlan_leaves (a : EndAction) (l : Nat) (s : State) :
    (endPlan a l s).lnk = s.lnk ∧ (endPlan a l s).mdc = s.mdc ∧ (endPlan a l s).dsp = s.dsp
      ∧ (endPlan a l s).env = s.env ∧ (endPlan a l s).eng = s.eng ∧ (endPlan a l s).wru = s.wru
      ∧ (endPlan a l s).ntu = s.ntu ∧ (endPlan a l s).pending = s.pending
      ∧ (endPlan a l s).mail.heatIn = s.mail.heatIn ∧ (endPlan a l s).mail.rteIn = s.mail.rteIn
      ∧ (endPlan a l s).mail.engIn = s.mail.engIn ∧ (endPlan a l s).mail.wruIn = s.mail.wruIn
      ∧ (endPlan a l s).mail.kmIn = s.mail.kmIn ∧ (endPlan a l s).mail.incIn = s.mail.incIn
      ∧ (endPlan a l s).mail.loadEndDsp = s.mail.loadEndDsp ∧ (endPlan a l s).mail.loadEndWru = s.mail.loadEndWru
      ∧ (endPlan a l s).cal = s.cal ∧ (endPlan a l s).now = s.now := by
  unfold endPlan; try dsimp only
  simp

/-- An end action changes RTE and raises. -/
@[simp] theorem applyEndAction_leaves (p : Plan) (e : Nat) (s : State) :
    (applyEndAction p e s).lnk = s.lnk ∧ (applyEndAction p e s).mdc = s.mdc ∧ (applyEndAction p e s).dsp = s.dsp
      ∧ (applyEndAction p e s).env = s.env ∧ (applyEndAction p e s).eng = s.eng ∧ (applyEndAction p e s).wru = s.wru
      ∧ (applyEndAction p e s).ntu = s.ntu ∧ (applyEndAction p e s).pending = s.pending
      ∧ (applyEndAction p e s).mail.heatIn = s.mail.heatIn ∧ (applyEndAction p e s).mail.rteIn = s.mail.rteIn
      ∧ (applyEndAction p e s).mail.engIn = s.mail.engIn ∧ (applyEndAction p e s).mail.wruIn = s.mail.wruIn
      ∧ (applyEndAction p e s).mail.kmIn = s.mail.kmIn ∧ (applyEndAction p e s).mail.incIn = s.mail.incIn
      ∧ (applyEndAction p e s).mail.loadEndDsp = s.mail.loadEndDsp
      ∧ (applyEndAction p e s).mail.loadEndWru = s.mail.loadEndWru ∧ (applyEndAction p e s).cal = s.cal
      ∧ (applyEndAction p e s).now = s.now := by
  unfold applyEndAction; try dsimp only
  (repeat' split) <;> simp

/-- Moving on changes RTE and raises. -/
@[simp] theorem moveOn_leaves (p : Plan) (e : Nat) (s : State) :
    (moveOn p e s).lnk = s.lnk ∧ (moveOn p e s).mdc = s.mdc ∧ (moveOn p e s).dsp = s.dsp ∧ (moveOn p e s).env = s.env
      ∧ (moveOn p e s).eng = s.eng ∧ (moveOn p e s).wru = s.wru ∧ (moveOn p e s).ntu = s.ntu
      ∧ (moveOn p e s).pending = s.pending ∧ (moveOn p e s).mail.heatIn = s.mail.heatIn
      ∧ (moveOn p e s).mail.rteIn = s.mail.rteIn ∧ (moveOn p e s).mail.engIn = s.mail.engIn
      ∧ (moveOn p e s).mail.wruIn = s.mail.wruIn ∧ (moveOn p e s).mail.kmIn = s.mail.kmIn
      ∧ (moveOn p e s).mail.incIn = s.mail.incIn ∧ (moveOn p e s).mail.loadEndDsp = s.mail.loadEndDsp
      ∧ (moveOn p e s).mail.loadEndWru = s.mail.loadEndWru ∧ (moveOn p e s).cal = s.cal ∧ (moveOn p e s).now = s.now := by
  unfold moveOn; try dsimp only
  (repeat' split) <;> simp

/-- Advancing the cursor changes RTE and raises. -/
@[simp] theorem advanceCursor_leaves (v dt d : Nat) (s : State) :
    (advanceCursor v dt d s).lnk = s.lnk ∧ (advanceCursor v dt d s).mdc = s.mdc ∧ (advanceCursor v dt d s).dsp = s.dsp
      ∧ (advanceCursor v dt d s).env = s.env ∧ (advanceCursor v dt d s).eng = s.eng
      ∧ (advanceCursor v dt d s).wru = s.wru ∧ (advanceCursor v dt d s).ntu = s.ntu
      ∧ (advanceCursor v dt d s).pending = s.pending ∧ (advanceCursor v dt d s).mail.heatIn = s.mail.heatIn
      ∧ (advanceCursor v dt d s).mail.rteIn = s.mail.rteIn ∧ (advanceCursor v dt d s).mail.engIn = s.mail.engIn
      ∧ (advanceCursor v dt d s).mail.wruIn = s.mail.wruIn ∧ (advanceCursor v dt d s).mail.kmIn = s.mail.kmIn
      ∧ (advanceCursor v dt d s).mail.incIn = s.mail.incIn
      ∧ (advanceCursor v dt d s).mail.loadEndDsp = s.mail.loadEndDsp
      ∧ (advanceCursor v dt d s).mail.loadEndWru = s.mail.loadEndWru ∧ (advanceCursor v dt d s).cal = s.cal
      ∧ (advanceCursor v dt d s).now = s.now := by
  unfold advanceCursor; try dsimp only
  (repeat' split) <;> simp

/-- RTE takes a record: it changes RTE, raises, and passes a distance on. -/
@[simp] theorem rteTakes_leaves (x : ResultRecord) (s : State) :
    (rteTakes x s).lnk = s.lnk ∧ (rteTakes x s).mdc = s.mdc ∧ (rteTakes x s).dsp = s.dsp ∧ (rteTakes x s).env = s.env
      ∧ (rteTakes x s).eng = s.eng ∧ (rteTakes x s).wru = s.wru ∧ (rteTakes x s).ntu = s.ntu
      ∧ (rteTakes x s).pending = s.pending ∧ (rteTakes x s).mail.heatIn = s.mail.heatIn
      ∧ (rteTakes x s).mail.rteIn = s.mail.rteIn ∧ (rteTakes x s).mail.engIn = s.mail.engIn
      ∧ (rteTakes x s).mail.wruIn = s.mail.wruIn ∧ (rteTakes x s).mail.incIn = s.mail.incIn
      ∧ (rteTakes x s).mail.loadEndDsp = s.mail.loadEndDsp ∧ (rteTakes x s).mail.loadEndWru = s.mail.loadEndWru
      ∧ (rteTakes x s).cal = s.cal ∧ (rteTakes x s).now = s.now := by
  unfold rteTakes; try dsimp only
  split <;> simp

/-- The trim test changes RTE and raises. -/
@[simp] theorem trimTest_leaves (p : Plan) (k : Nat) (f : Bool) (s : State) :
    ((trimTest p k f s).1).lnk = s.lnk ∧ ((trimTest p k f s).1).mdc = s.mdc ∧ ((trimTest p k f s).1).dsp = s.dsp
      ∧ ((trimTest p k f s).1).env = s.env ∧ ((trimTest p k f s).1).eng = s.eng ∧ ((trimTest p k f s).1).wru = s.wru
      ∧ ((trimTest p k f s).1).ntu = s.ntu ∧ ((trimTest p k f s).1).pending = s.pending
      ∧ ((trimTest p k f s).1).mail.heatIn = s.mail.heatIn ∧ ((trimTest p k f s).1).mail.rteIn = s.mail.rteIn
      ∧ ((trimTest p k f s).1).mail.engIn = s.mail.engIn ∧ ((trimTest p k f s).1).mail.wruIn = s.mail.wruIn
      ∧ ((trimTest p k f s).1).mail.kmIn = s.mail.kmIn ∧ ((trimTest p k f s).1).mail.incIn = s.mail.incIn
      ∧ ((trimTest p k f s).1).mail.loadEndDsp = s.mail.loadEndDsp
      ∧ ((trimTest p k f s).1).mail.loadEndWru = s.mail.loadEndWru ∧ ((trimTest p k f s).1).cal = s.cal
      ∧ ((trimTest p k f s).1).now = s.now := by
  unfold trimTest; try dsimp only
  (repeat' split) <;> simp

/-- RTE takes START: it changes RTE only. -/
@[simp] theorem rteStart_leaves (s : State) :
    (rteStart s).lnk = s.lnk ∧ (rteStart s).mdc = s.mdc ∧ (rteStart s).dsp = s.dsp ∧ (rteStart s).env = s.env
      ∧ (rteStart s).eng = s.eng ∧ (rteStart s).wru = s.wru ∧ (rteStart s).ntu = s.ntu
      ∧ (rteStart s).pending = s.pending ∧ (rteStart s).mail = s.mail ∧ (rteStart s).cal = s.cal
      ∧ (rteStart s).now = s.now := by
  unfold rteStart; try dsimp only
  (repeat' split) <;> simp

/-- Settling the permit changes DSP and raises. -/
@[simp] theorem settlePermit_leaves (x : DemandFields) (s : State) :
    (settlePermit x s).lnk = s.lnk ∧ (settlePermit x s).mdc = s.mdc ∧ (settlePermit x s).env = s.env
      ∧ (settlePermit x s).eng = s.eng ∧ (settlePermit x s).rte = s.rte ∧ (settlePermit x s).wru = s.wru
      ∧ (settlePermit x s).ntu = s.ntu ∧ (settlePermit x s).pending = s.pending
      ∧ (settlePermit x s).mail.heatIn = s.mail.heatIn ∧ (settlePermit x s).mail.rteIn = s.mail.rteIn
      ∧ (settlePermit x s).mail.engIn = s.mail.engIn ∧ (settlePermit x s).mail.wruIn = s.mail.wruIn
      ∧ (settlePermit x s).mail.kmIn = s.mail.kmIn ∧ (settlePermit x s).mail.incIn = s.mail.incIn
      ∧ (settlePermit x s).mail.loadEndDsp = s.mail.loadEndDsp
      ∧ (settlePermit x s).mail.loadEndWru = s.mail.loadEndWru ∧ (settlePermit x s).cal = s.cal
      ∧ (settlePermit x s).now = s.now := by
  unfold settlePermit; try dsimp only
  (repeat' split) <;> simp

/-- The taking of a DEMAND changes DSP and raises. -/
@[simp] theorem demandTaken_leaves (x : DemandFields) (s : State) :
    (demandTaken x s).lnk = s.lnk ∧ (demandTaken x s).mdc = s.mdc ∧ (demandTaken x s).env = s.env
      ∧ (demandTaken x s).eng = s.eng ∧ (demandTaken x s).rte = s.rte ∧ (demandTaken x s).wru = s.wru
      ∧ (demandTaken x s).ntu = s.ntu ∧ (demandTaken x s).pending = s.pending
      ∧ (demandTaken x s).mail.heatIn = s.mail.heatIn ∧ (demandTaken x s).mail.rteIn = s.mail.rteIn
      ∧ (demandTaken x s).mail.engIn = s.mail.engIn ∧ (demandTaken x s).mail.wruIn = s.mail.wruIn
      ∧ (demandTaken x s).mail.kmIn = s.mail.kmIn ∧ (demandTaken x s).mail.incIn = s.mail.incIn
      ∧ (demandTaken x s).mail.loadEndDsp = s.mail.loadEndDsp ∧ (demandTaken x s).mail.loadEndWru = s.mail.loadEndWru
      ∧ (demandTaken x s).cal = s.cal ∧ (demandTaken x s).now = s.now := by
  unfold demandTaken; try dsimp only
  simp

/-- A publication changes DSP and what waits for the takers. -/
@[simp] theorem publish_leaves (x : ResultRecord) (s : State) :
    (publish x s).lnk = s.lnk ∧ (publish x s).mdc = s.mdc ∧ (publish x s).env = s.env ∧ (publish x s).eng = s.eng
      ∧ (publish x s).rte = s.rte ∧ (publish x s).wru = s.wru ∧ (publish x s).ntu = s.ntu
      ∧ (publish x s).pending = s.pending ∧ (publish x s).mail.kmIn = s.mail.kmIn
      ∧ (publish x s).mail.incIn = s.mail.incIn ∧ (publish x s).mail.raised = s.mail.raised
      ∧ (publish x s).mail.loadEndDsp = s.mail.loadEndDsp ∧ (publish x s).mail.loadEndWru = s.mail.loadEndWru
      ∧ (publish x s).cal = s.cal ∧ (publish x s).now = s.now := by
  unfold publish; try dsimp only
  simp

/-- A dispatch changes DSP, ENV and the reply queue, raises, and publishes. -/
@[simp] theorem dispatch_leaves (x : DemandFields) (s : State) :
    (dispatch x s).mdc = s.mdc ∧ (dispatch x s).eng = s.eng ∧ (dispatch x s).rte = s.rte ∧ (dispatch x s).wru = s.wru
      ∧ (dispatch x s).ntu = s.ntu ∧ (dispatch x s).pending = s.pending ∧ (dispatch x s).mail.kmIn = s.mail.kmIn
      ∧ (dispatch x s).mail.incIn = s.mail.incIn ∧ (dispatch x s).mail.loadEndDsp = s.mail.loadEndDsp
      ∧ (dispatch x s).mail.loadEndWru = s.mail.loadEndWru ∧ (dispatch x s).cal = s.cal ∧ (dispatch x s).now = s.now := by
  unfold dispatch; try dsimp only
  simp

/-- The comparison with the thresholds changes DSP and raises. -/
@[simp] theorem heatMark_leaves (r : Int) (s : State) :
    (heatMark r s).lnk = s.lnk ∧ (heatMark r s).mdc = s.mdc ∧ (heatMark r s).env = s.env ∧ (heatMark r s).eng = s.eng
      ∧ (heatMark r s).rte = s.rte ∧ (heatMark r s).wru = s.wru ∧ (heatMark r s).ntu = s.ntu
      ∧ (heatMark r s).pending = s.pending ∧ (heatMark r s).mail.heatIn = s.mail.heatIn
      ∧ (heatMark r s).mail.rteIn = s.mail.rteIn ∧ (heatMark r s).mail.engIn = s.mail.engIn
      ∧ (heatMark r s).mail.wruIn = s.mail.wruIn ∧ (heatMark r s).mail.kmIn = s.mail.kmIn
      ∧ (heatMark r s).mail.incIn = s.mail.incIn ∧ (heatMark r s).mail.loadEndDsp = s.mail.loadEndDsp
      ∧ (heatMark r s).mail.loadEndWru = s.mail.loadEndWru ∧ (heatMark r s).cal = s.cal ∧ (heatMark r s).now = s.now := by
  unfold heatMark; try dsimp only
  (repeat' split) <;> simp

/-- The heat model takes a record: it changes DSP and raises. -/
@[simp] theorem heatTakes_leaves (x : ResultRecord) (s : State) :
    (heatTakes x s).lnk = s.lnk ∧ (heatTakes x s).mdc = s.mdc ∧ (heatTakes x s).env = s.env
      ∧ (heatTakes x s).eng = s.eng ∧ (heatTakes x s).rte = s.rte ∧ (heatTakes x s).wru = s.wru
      ∧ (heatTakes x s).ntu = s.ntu ∧ (heatTakes x s).pending = s.pending
      ∧ (heatTakes x s).mail.heatIn = s.mail.heatIn ∧ (heatTakes x s).mail.rteIn = s.mail.rteIn
      ∧ (heatTakes x s).mail.engIn = s.mail.engIn ∧ (heatTakes x s).mail.wruIn = s.mail.wruIn
      ∧ (heatTakes x s).mail.kmIn = s.mail.kmIn ∧ (heatTakes x s).mail.incIn = s.mail.incIn
      ∧ (heatTakes x s).mail.loadEndDsp = s.mail.loadEndDsp ∧ (heatTakes x s).mail.loadEndWru = s.mail.loadEndWru
      ∧ (heatTakes x s).cal = s.cal ∧ (heatTakes x s).now = s.now := by
  unfold heatTakes; try dsimp only
  simp

/-- Clamping H changes DSP only. -/
@[simp] theorem clampHeat_leaves (s : State) :
    (clampHeat s).lnk = s.lnk ∧ (clampHeat s).mdc = s.mdc ∧ (clampHeat s).env = s.env ∧ (clampHeat s).eng = s.eng
      ∧ (clampHeat s).rte = s.rte ∧ (clampHeat s).wru = s.wru ∧ (clampHeat s).ntu = s.ntu
      ∧ (clampHeat s).pending = s.pending ∧ (clampHeat s).mail = s.mail ∧ (clampHeat s).cal = s.cal
      ∧ (clampHeat s).now = s.now := by
  unfold clampHeat; try dsimp only
  simp

/-- DSP takes START: it changes DSP only. -/
@[simp] theorem dspStart_leaves (s : State) :
    (dspStart s).lnk = s.lnk ∧ (dspStart s).mdc = s.mdc ∧ (dspStart s).env = s.env ∧ (dspStart s).eng = s.eng
      ∧ (dspStart s).rte = s.rte ∧ (dspStart s).wru = s.wru ∧ (dspStart s).ntu = s.ntu
      ∧ (dspStart s).pending = s.pending ∧ (dspStart s).mail = s.mail ∧ (dspStart s).cal = s.cal
      ∧ (dspStart s).now = s.now := by
  unfold dspStart; try dsimp only
  simp

/-- DSP takes HALT: it changes DSP only. -/
@[simp] theorem dspHalt_leaves (s : State) :
    (dspHalt s).lnk = s.lnk ∧ (dspHalt s).mdc = s.mdc ∧ (dspHalt s).env = s.env ∧ (dspHalt s).eng = s.eng
      ∧ (dspHalt s).rte = s.rte ∧ (dspHalt s).wru = s.wru ∧ (dspHalt s).ntu = s.ntu ∧ (dspHalt s).pending = s.pending
      ∧ (dspHalt s).mail = s.mail ∧ (dspHalt s).cal = s.cal ∧ (dspHalt s).now = s.now := by
  unfold dspHalt; try dsimp only
  simp

/-- What a CAL_WRITE does at once changes DSP or WRU, and raises. -/
@[simp] theorem calWriteEffect_leaves (id : Nat) (s : State) :
    (calWriteEffect id s).lnk = s.lnk ∧ (calWriteEffect id s).mdc = s.mdc ∧ (calWriteEffect id s).env = s.env
      ∧ (calWriteEffect id s).eng = s.eng ∧ (calWriteEffect id s).rte = s.rte ∧ (calWriteEffect id s).ntu = s.ntu
      ∧ (calWriteEffect id s).pending = s.pending ∧ (calWriteEffect id s).mail.heatIn = s.mail.heatIn
      ∧ (calWriteEffect id s).mail.rteIn = s.mail.rteIn ∧ (calWriteEffect id s).mail.engIn = s.mail.engIn
      ∧ (calWriteEffect id s).mail.wruIn = s.mail.wruIn ∧ (calWriteEffect id s).mail.kmIn = s.mail.kmIn
      ∧ (calWriteEffect id s).mail.incIn = s.mail.incIn ∧ (calWriteEffect id s).mail.loadEndDsp = s.mail.loadEndDsp
      ∧ (calWriteEffect id s).mail.loadEndWru = s.mail.loadEndWru ∧ (calWriteEffect id s).cal = s.cal
      ∧ (calWriteEffect id s).now = s.now := by
  unfold calWriteEffect; try dsimp only
  (repeat' split) <;> simp

/-- The success of a fill changes ENV only. -/
@[simp] theorem fillSuccess_leaves (m : MapData) (s : State) :
    (fillSuccess m s).lnk = s.lnk ∧ (fillSuccess m s).mdc = s.mdc ∧ (fillSuccess m s).dsp = s.dsp
      ∧ (fillSuccess m s).eng = s.eng ∧ (fillSuccess m s).rte = s.rte ∧ (fillSuccess m s).wru = s.wru
      ∧ (fillSuccess m s).ntu = s.ntu ∧ (fillSuccess m s).pending = s.pending ∧ (fillSuccess m s).mail = s.mail
      ∧ (fillSuccess m s).cal = s.cal ∧ (fillSuccess m s).now = s.now := by
  unfold fillSuccess; try dsimp only
  (repeat' split) <;> simp

/-- A check failure changes ENV and raises. -/
@[simp] theorem checkFailure_leaves (m : MapData) (s : State) :
    (checkFailure m s).lnk = s.lnk ∧ (checkFailure m s).mdc = s.mdc ∧ (checkFailure m s).dsp = s.dsp
      ∧ (checkFailure m s).eng = s.eng ∧ (checkFailure m s).rte = s.rte ∧ (checkFailure m s).wru = s.wru
      ∧ (checkFailure m s).ntu = s.ntu ∧ (checkFailure m s).pending = s.pending
      ∧ (checkFailure m s).mail.heatIn = s.mail.heatIn ∧ (checkFailure m s).mail.rteIn = s.mail.rteIn
      ∧ (checkFailure m s).mail.engIn = s.mail.engIn ∧ (checkFailure m s).mail.wruIn = s.mail.wruIn
      ∧ (checkFailure m s).mail.kmIn = s.mail.kmIn ∧ (checkFailure m s).mail.incIn = s.mail.incIn
      ∧ (checkFailure m s).mail.loadEndDsp = s.mail.loadEndDsp
      ∧ (checkFailure m s).mail.loadEndWru = s.mail.loadEndWru ∧ (checkFailure m s).cal = s.cal
      ∧ (checkFailure m s).now = s.now := by
  unfold checkFailure; try dsimp only
  (repeat' split) <;> simp

/-- The end of LOADING changes MDC, raises, and waits at DSP and WRU. -/
@[simp] theorem finishLoading_leaves (c : Cal) (s : State) :
    (finishLoading c s).lnk = s.lnk ∧ (finishLoading c s).dsp = s.dsp ∧ (finishLoading c s).env = s.env
      ∧ (finishLoading c s).eng = s.eng ∧ (finishLoading c s).rte = s.rte ∧ (finishLoading c s).wru = s.wru
      ∧ (finishLoading c s).ntu = s.ntu ∧ (finishLoading c s).pending = s.pending
      ∧ (finishLoading c s).mail.heatIn = s.mail.heatIn ∧ (finishLoading c s).mail.rteIn = s.mail.rteIn
      ∧ (finishLoading c s).mail.engIn = s.mail.engIn ∧ (finishLoading c s).mail.wruIn = s.mail.wruIn
      ∧ (finishLoading c s).mail.kmIn = s.mail.kmIn ∧ (finishLoading c s).mail.incIn = s.mail.incIn := by
  simp [finishLoading]

/-- Keeping the defaults changes MDC, raises, and waits at DSP and WRU. -/
@[simp] theorem keepDefaults_leaves (a : Nat) (s : State) :
    (keepDefaults a s).lnk = s.lnk ∧ (keepDefaults a s).dsp = s.dsp ∧ (keepDefaults a s).env = s.env
      ∧ (keepDefaults a s).eng = s.eng ∧ (keepDefaults a s).rte = s.rte ∧ (keepDefaults a s).wru = s.wru
      ∧ (keepDefaults a s).ntu = s.ntu ∧ (keepDefaults a s).pending = s.pending
      ∧ (keepDefaults a s).mail.heatIn = s.mail.heatIn ∧ (keepDefaults a s).mail.rteIn = s.mail.rteIn
      ∧ (keepDefaults a s).mail.engIn = s.mail.engIn ∧ (keepDefaults a s).mail.wruIn = s.mail.wruIn
      ∧ (keepDefaults a s).mail.kmIn = s.mail.kmIn ∧ (keepDefaults a s).mail.incIn = s.mail.incIn := by
  simp [keepDefaults]

/-- Entering LOADING changes MDC and ENV, raises, and may wait at DSP and WRU. -/
@[simp] theorem enterLoading_leaves (s : State) :
    (enterLoading s).lnk = s.lnk ∧ (enterLoading s).dsp = s.dsp ∧ (enterLoading s).eng = s.eng
      ∧ (enterLoading s).rte = s.rte ∧ (enterLoading s).wru = s.wru ∧ (enterLoading s).ntu = s.ntu
      ∧ (enterLoading s).pending = s.pending ∧ (enterLoading s).mail.heatIn = s.mail.heatIn
      ∧ (enterLoading s).mail.rteIn = s.mail.rteIn ∧ (enterLoading s).mail.engIn = s.mail.engIn
      ∧ (enterLoading s).mail.wruIn = s.mail.wruIn ∧ (enterLoading s).mail.kmIn = s.mail.kmIn
      ∧ (enterLoading s).mail.incIn = s.mail.incIn := by
  unfold enterLoading; try dsimp only
  (repeat' split) <;> simp

end Sys2Proof.Machine
end

