-- ==== Sys2Proof/Laws/Requests.lean ====
section
/-!
SUPPORT. What a host request can do to the Link Controller: nothing, or one frame out of the intake queue and one answer into
the reply queue (R156, R170).
-/
namespace Sys2Proof.Machine

/-- A DISPATCH is the one change of the Link Controller at a dispatch. -/
theorem dispatch_lnk (x : DemandFields) (s : State) :
    ∃ m, (dispatch x s).lnk = { s.lnk with replies := s.lnk.replies ++ [.dispatch m] } := by
  refine ⟨?_, ?_⟩
  rotate_left
  · simp only [dispatch, publish, State.setMail_lnk, State.setDsp_lnk, answer_lnk, State.setEnv_lnk, demandTaken_leaves]
    rfl

/-- All that the taking of a request can do: nothing, the answer BAD_LENGTH, or the service of a request of right length. -/
theorem takeRequest_cases (type : Byte) (ready : Frame → State → Bool) (serve : Frame → State → State) (s : State) :
    takeRequest type ready serve s = s
      ∨ ∃ f rest, Serves s f rest ∧ f.type = type
          ∧ ((lengthOk f = false
                ∧ takeRequest type ready serve s = s.answered rest (.reply f.type .badLength s.mdc.op f.payload.length))
              ∨ (lengthOk f = true ∧ ready f s = true
                ∧ takeRequest type ready serve s = serve f (s.setLnk { s.lnk with intake := rest }))) := by
  rcases takeFrame_cases (fun f => f.type == type) (readyChecked ready) (serveChecked serve) s with
    h | ⟨f, rest, h1, h2, h3, h4⟩
  · exact .inl h
  · refine .inr ⟨f, rest, h1, by simpa using h2, ?_⟩
    simp only [takeRequest, h4, serveChecked]
    cases hl : lengthOk f
    · exact .inl ⟨rfl, rfl⟩
    · exact .inr ⟨rfl, by simpa [readyChecked, hl] using h3, rfl⟩

/-- All that the taking of a QUERY can do. -/
theorem takeQuery_cases (topic : Nat) (ready : Frame → State → Bool) (before : State → State)
    (content : State → List Byte) (s : State) :
    takeQuery topic ready before content s = s
      ∨ ∃ f rest, Serves s f rest ∧ isTopic topic f = true
          ∧ ((lengthOk f = false
                ∧ takeQuery topic ready before content s
                  = s.answered rest (.reply f.type .badLength s.mdc.op f.payload.length))
              ∨ (lengthOk f = true ∧ ready f s = true
                ∧ takeQuery topic ready before content s
                  = answer (.report f.type (byte topic) (content (before (s.setLnk { s.lnk with intake := rest }))))
                      (before (s.setLnk { s.lnk with intake := rest })))) := by
  unfold takeQuery
  rcases takeFrame_cases (isTopic topic) (readyChecked ready) _ s with h | ⟨f, rest, h1, h2, h3, h4⟩
  · exact .inl h
  · refine .inr ⟨f, rest, h1, h2, ?_⟩
    simp only [h4, serveChecked]
    cases hl : lengthOk f
    · exact .inl ⟨rfl, rfl⟩
    · exact .inr ⟨rfl, by simpa [readyChecked, hl] using h3, rfl⟩

/-- The rows that take a frame (R156). -/
def isRequest : Instr → Bool
  | .demand | .start | .halt | .restart | .faultClear | .calWrite | .calRead | .routeLoad | .routeArm | .routeDepart
  | .routeSync | .routeClear | .mapFlush | .wearSeed | .wearService | .queryStatus | .queryWearA | .queryWearB
  | .queryPredict | .queryRoute | .queryStartsA | .queryStartsB | .queryMap | .queryUnknownTopic | .unknownType => true
  | _ => false

/-- A service that answers once makes one change to the Link Controller. -/
theorem takeRequest_lnk (type : Byte) (ready : Frame → State → Bool) (serve : Frame → State → State) (s : State)
    (h : ∀ f s, ∃ a, (serve f s).lnk = { s.lnk with replies := s.lnk.replies ++ [a] }) :
    takeRequest type ready serve s = s
      ∨ ∃ f rest a, Serves s f rest
          ∧ (takeRequest type ready serve s).lnk = { s.lnk with intake := rest, replies := s.lnk.replies ++ [a] } := by
  rcases takeRequest_cases type ready serve s with e | ⟨f, rest, h1, -, ⟨-, h3⟩ | ⟨-, -, h3⟩⟩
  · exact .inl e
  · exact .inr ⟨f, rest, _, h1, by rw [h3]; rfl⟩
  · obtain ⟨a, ha⟩ := h f (s.setLnk { s.lnk with intake := rest })
    exact .inr ⟨f, rest, a, h1, by rw [h3, ha]; rfl⟩

/-- So does a QUERY. -/
theorem takeQuery_lnk (topic : Nat) (ready : Frame → State → Bool) (before : State → State)
    (content : State → List Byte) (s : State)
    (h : ∀ s, (before s).lnk = s.lnk) :
    takeQuery topic ready before content s = s
      ∨ ∃ f rest a, Serves s f rest
          ∧ (takeQuery topic ready before content s).lnk = { s.lnk with intake := rest, replies := s.lnk.replies ++ [a] } := by
  rcases takeQuery_cases topic ready before content s with e | ⟨f, rest, h1, -, ⟨-, h3⟩ | ⟨-, -, h3⟩⟩
  · exact .inl e
  · exact .inr ⟨f, rest, _, h1, by rw [h3]; rfl⟩
  · exact .inr ⟨f, rest, _, h1, by rw [h3, answer_lnk, h]; rfl⟩

/-- A request row that goes on to a next state has changed nothing, or has taken the oldest frame of the intake queue, which was
to be served, and put one answer into the reply queue. -/
theorem request_lnk (i : Instr) (hi : isRequest i = true) (s t : State) (h : exec i s = .next t) :
    t = s
      ∨ ∃ f rest a, Serves s f rest ∧ t.lnk = { s.lnk with intake := rest, replies := s.lnk.replies ++ [a] } := by
  cases i <;> first | (cases hi; done) | skip
  case demand =>
    cases h
    refine takeRequest_lnk _ _ _ s fun f s => ?_
    simp only [execDemand.serve]
    split
    · obtain ⟨m, hm⟩ := dispatch_lnk (demandFields f.payload) s
      exact ⟨_, hm⟩
    all_goals exact ⟨_, rfl⟩
  case unknownType =>
    cases h
    rcases takeFrame_cases (fun f => !knownType f.type) noWait (fun f s => reply f.type .unknownType 0 s) s with
      h | ⟨f, rest, h1, -, -, h4⟩
    · exact .inl h
    · exact .inr ⟨f, rest, _, h1, by rw [h4]; rfl⟩
  case queryUnknownTopic =>
    cases h
    rcases takeFrame_cases isUnknownTopic noWait
        (serveChecked fun f s => reply f.type .badValue (byteAt f.payload 0) s) s with h | ⟨f, rest, h1, -, -, h4⟩
    · exact .inl h
    · refine .inr ⟨f, rest, ?_⟩
      rw [h4, serveChecked]
      split <;> exact ⟨_, h1, rfl⟩
  all_goals
    cases h
    first
    | exact takeQuery_lnk _ _ _ _ s (by intro s; simp)
    | (refine takeRequest_lnk _ _ _ s fun f s => ?_
       simp only [execStart.serve, execHalt.serve, execRestart.serve, execFaultClear.serve, execCalWrite.serve,
         execCalRead.serve, execRouteLoad.serve, execRouteArm.serve, execRouteDepart.serve, execRouteSync.serve,
         execRouteClear.serve, execMapFlush.serve, execWearSeed.serve, execWearService.serve]
       (repeat' split) <;> (refine ⟨?_, ?_⟩; rotate_left; (simp; first | done | rfl)))

end Sys2Proof.Machine
end

