-- ==== Sys2Proof/Laws/Keeps.lean ====
section
/-!
SUPPORT. Which commands can change a block: every other command leaves it as it was.
-/
namespace Sys2Proof.Machine

/-- A request keeps what its service keeps and the queues do not touch. -/
theorem takeRequest_keeps {α : Type} (g : State → α) (type : Byte) (ready : Frame → State → Bool)
    (serve : Frame → State → State) (s : State) (hl : ∀ s l, g (s.setLnk l) = g s) (h : ∀ f s, g (serve f s) = g s) :
    g (takeRequest type ready serve s) = g s := by
  rcases takeRequest_cases type ready serve s with e | ⟨f, rest, -, -, ⟨-, e⟩ | ⟨-, -, e⟩⟩
  · rw [e]
  · rw [e]; exact hl s _
  · rw [e, h, hl]

/-- So does a QUERY. -/
theorem takeQuery_keeps {α : Type} (g : State → α) (topic : Nat) (ready : Frame → State → Bool) (before : State → State)
    (content : State → List Byte) (s : State) (hl : ∀ s l, g (s.setLnk l) = g s) (h : ∀ s, g (before s) = g s) :
    g (takeQuery topic ready before content s) = g s := by
  rcases takeQuery_cases topic ready before content s with e | ⟨f, rest, -, -, ⟨-, e⟩ | ⟨-, -, e⟩⟩
  · rw [e]
  · rw [e]; exact hl s _
  · rw [e, answer, hl, h, hl]

/-- The answers UNKNOWN_TYPE and BAD_VALUE to an unknown topic touch the queues only. -/
theorem execUnknown_keeps {α : Type} (g : State → α) (i : Instr) (hi : i = .unknownType ∨ i = .queryUnknownTopic) (s t : State)
    (h : exec i s = .next t) (hl : ∀ s l, g (s.setLnk l) = g s) : g t = g s := by
  rcases hi with rfl | rfl <;> cases h
  · rcases takeFrame_cases (fun f => !knownType f.type) noWait (fun f s => reply f.type .unknownType 0 s) s with
      e | ⟨f, rest, -, -, -, e⟩
    · rw [e]
    · rw [e, reply, answer, hl, hl]
  · rcases takeFrame_cases isUnknownTopic noWait
        (serveChecked fun f s => reply f.type .badValue (byteAt f.payload 0) s) s with e | ⟨f, rest, -, -, -, e⟩
    · rw [e]
    · rw [e, serveChecked]; split <;> rw [reply, answer, hl, hl]

/-- The commands that can change the Notice Unit. -/
def changesNtu : Instr → Bool
  | .powerOn _ | .resetn _ | .eventRaised _ | .stageNotice | .coalescingTimerExpiry | .transmitEnd => true
  | _ => false

/-- Every other request leaves the Notice Unit as it was. -/
theorem ntu_kept_request (i : Instr) (hi : changesNtu i = false) (hr : isRequest i = true) (s t : State)
    (h : exec i s = .next t) : t.ntu = s.ntu := by
  cases i <;> first | (cases hi; done) | (cases hr; done) | skip
  case unknownType => exact execUnknown_keeps State.ntu _ (.inl rfl) s t h fun _ _ => rfl
  case queryUnknownTopic => exact execUnknown_keeps State.ntu _ (.inr rfl) s t h fun _ _ => rfl
  all_goals
    cases h
    first
    | exact takeQuery_keeps State.ntu _ _ _ _ s (fun _ _ => rfl) (by intro s; simp)
    | (refine takeRequest_keeps State.ntu _ _ _ s (fun _ _ => rfl) fun f s => ?_
       simp only [execDemand.serve, execStart.serve, execHalt.serve, execRestart.serve, execFaultClear.serve,
         execCalWrite.serve, execCalRead.serve, execRouteLoad.serve, execRouteArm.serve, execRouteDepart.serve,
         execRouteSync.serve, execRouteClear.serve, execMapFlush.serve, execWearSeed.serve, execWearService.serve]
       (repeat' split) <;> simp)

/-- Every other command leaves the Notice Unit as it was. -/
theorem ntu_kept (i : Instr) (hi : changesNtu i = false) (s t : State) (h : exec i s = .next t) : t.ntu = s.ntu := by
  by_cases hr : isRequest i = true
  · exact ntu_kept_request i hi hr s t h
  cases i <;> first | (cases hi; done) | (exact absurd rfl hr) | skip
  all_goals
    simp only [exec, execImageReadEnd, execHeatInit, dspTakesLoadEnd, execWruLoadingGrade, wruTakesLoadEnd, execDemandTimerExpiry, execHeatUpdate, heatTakesNext,
      execRteResult, rteTakesNext, execEngResultEvaluation, engTakesNext, execCrankTimerExpiry, execPauseTimerExpiry, execWarmTimerExpiry,
      execStopHoldExpiry, execCooldownTimerExpiry, execWruResult, wruTakesNext, execEngineIncrement, wruTakesNextIncrement, execKmDistance, wruTakesNextDistance,
      execLampTimerExpiry, execFillSuccess, execCheckFailure, execFrameReceived, execGapTimerExpiry,
      execFramingFault, execLineBreak, execBreakWaitEnd, execMeasureStart, execMeasurementEnd, execStageAnswer,
      execCharacterReceived, execMeasureFirstRisingEdge, execMeasurementCountOverflow, stateTimerExpiry,
      execCrankTimerExpiry.act, execPauseTimerExpiry.act, execWarmTimerExpiry.act, Host.Outcome.next.injEq] at h
    subst h
    (repeat' split) <;> simp [foldl_raise, State.raising]

/-- The commands that can change the Engine Scheduler. -/
def changesEng : Instr → Bool
  | .powerOn _ | .resetn _ | .engResultEvaluation | .crankTimerExpiry | .pauseTimerExpiry | .warmTimerExpiry |
    .stopHoldExpiry | .cooldownTimerExpiry | .halt | .faultClear | .queryStartsA | .queryStartsB | .transmitEnd => true
  | _ => false

/-- Every other request leaves the Engine Scheduler as it was. -/
theorem eng_kept_request (i : Instr) (hi : changesEng i = false) (hr : isRequest i = true) (s t : State)
    (h : exec i s = .next t) : t.eng = s.eng := by
  cases i <;> first | (cases hi; done) | (cases hr; done) | skip
  case unknownType => exact execUnknown_keeps State.eng _ (.inl rfl) s t h fun _ _ => rfl
  case queryUnknownTopic => exact execUnknown_keeps State.eng _ (.inr rfl) s t h fun _ _ => rfl
  all_goals
    cases h
    first
    | exact takeQuery_keeps State.eng _ _ _ _ s (fun _ _ => rfl) (by intro s; simp)
    | (refine takeRequest_keeps State.eng _ _ _ s (fun _ _ => rfl) fun f s => ?_
       simp only [execDemand.serve, execStart.serve, execRestart.serve, execCalWrite.serve, execCalRead.serve,
         execRouteLoad.serve, execRouteArm.serve, execRouteDepart.serve, execRouteSync.serve, execRouteClear.serve,
         execMapFlush.serve, execWearSeed.serve, execWearService.serve]
       (repeat' split) <;> simp)

/-- Every other command leaves the Engine Scheduler as it was. -/
theorem eng_kept (i : Instr) (hi : changesEng i = false) (s t : State) (h : exec i s = .next t) : t.eng = s.eng := by
  by_cases hr : isRequest i = true
  · exact eng_kept_request i hi hr s t h
  cases i <;> first | (cases hi; done) | (exact absurd rfl hr) | skip
  all_goals
    simp only [exec, execImageReadEnd, execHeatInit, dspTakesLoadEnd, execWruLoadingGrade, wruTakesLoadEnd, execDemandTimerExpiry, execHeatUpdate, heatTakesNext,
      execRteResult, rteTakesNext, execWruResult, wruTakesNext, execEngineIncrement, wruTakesNextIncrement, execKmDistance, wruTakesNextDistance, execLampTimerExpiry, execFillSuccess,
      execCheckFailure, execFrameReceived, execGapTimerExpiry, execFramingFault, execLineBreak, execBreakWaitEnd,
      execMeasureStart, execMeasurementEnd, execStageAnswer, execStageNotice, execEventRaised,
      execCoalescingTimerExpiry, execCharacterReceived, execMeasureFirstRisingEdge, execMeasurementCountOverflow,
      Host.Outcome.next.injEq] at h
    subst h
    (repeat' split) <;> simp [foldl_raise, State.raising]

/-- The commands that can change the Route Unit. -/
def changesRte : Instr → Bool
  | .powerOn _ | .resetn _ | .rteResult | .start | .routeLoad | .routeArm | .routeDepart | .routeSync |
    .routeClear | .transmitEnd => true
  | _ => false

/-- Every other request leaves the Route Unit as it was. -/
theorem rte_kept_request (i : Instr) (hi : changesRte i = false) (hr : isRequest i = true) (s t : State)
    (h : exec i s = .next t) : t.rte = s.rte := by
  cases i <;> first | (cases hi; done) | (cases hr; done) | skip
  case unknownType => exact execUnknown_keeps State.rte _ (.inl rfl) s t h fun _ _ => rfl
  case queryUnknownTopic => exact execUnknown_keeps State.rte _ (.inr rfl) s t h fun _ _ => rfl
  all_goals
    cases h
    first
    | exact takeQuery_keeps State.rte _ _ _ _ s (fun _ _ => rfl) (by intro s; simp)
    | (refine takeRequest_keeps State.rte _ _ _ s (fun _ _ => rfl) fun f s => ?_
       simp only [execDemand.serve, execHalt.serve, execRestart.serve, execFaultClear.serve, execCalWrite.serve,
         execCalRead.serve, execMapFlush.serve, execWearSeed.serve, execWearService.serve]
       (repeat' split) <;> simp)

/-- Every other command leaves the Route Unit as it was. -/
theorem rte_kept (i : Instr) (hi : changesRte i = false) (s t : State) (h : exec i s = .next t) : t.rte = s.rte := by
  by_cases hr : isRequest i = true
  · exact rte_kept_request i hi hr s t h
  cases i <;> first | (cases hi; done) | (exact absurd rfl hr) | skip
  all_goals
    simp only [exec, execImageReadEnd, execHeatInit, dspTakesLoadEnd, execWruLoadingGrade, wruTakesLoadEnd, execDemandTimerExpiry, execHeatUpdate, heatTakesNext,
      execEngResultEvaluation, engTakesNext, execCrankTimerExpiry, execPauseTimerExpiry, execWarmTimerExpiry, execStopHoldExpiry,
      execCooldownTimerExpiry, execWruResult, wruTakesNext, execEngineIncrement, wruTakesNextIncrement, execKmDistance, wruTakesNextDistance, execLampTimerExpiry,
      execFillSuccess, execCheckFailure, execFrameReceived, execGapTimerExpiry, execFramingFault, execLineBreak,
      execBreakWaitEnd, execMeasureStart, execMeasurementEnd, execStageAnswer, execStageNotice, execEventRaised,
      execCoalescingTimerExpiry, execCharacterReceived, execMeasureFirstRisingEdge, execMeasurementCountOverflow,
      stateTimerExpiry, execCrankTimerExpiry.act, execPauseTimerExpiry.act, execWarmTimerExpiry.act,
      Host.Outcome.next.injEq] at h
    subst h
    (repeat' split) <;> simp [foldl_raise, State.raising]

/-- The commands that can change the Envelope Unit. -/
def changesEnv : Instr → Bool
  | .powerOn _ | .resetn _ | .imageReadEnd _ | .demand | .fillSuccess _ | .checkFailure _ | .start | .mapFlush |
    .transmitEnd => true
  | _ => false

/-- Every other request leaves the Envelope Unit as it was. -/
theorem env_kept_request (i : Instr) (hi : changesEnv i = false) (hr : isRequest i = true) (s t : State)
    (h : exec i s = .next t) : t.env = s.env := by
  cases i <;> first | (cases hi; done) | (cases hr; done) | skip
  case unknownType => exact execUnknown_keeps State.env _ (.inl rfl) s t h fun _ _ => rfl
  case queryUnknownTopic => exact execUnknown_keeps State.env _ (.inr rfl) s t h fun _ _ => rfl
  all_goals
    cases h
    first
    | exact takeQuery_keeps State.env _ _ _ _ s (fun _ _ => rfl) (by intro s; simp)
    | (refine takeRequest_keeps State.env _ _ _ s (fun _ _ => rfl) fun f s => ?_
       simp only [execHalt.serve, execRestart.serve, execFaultClear.serve, execCalWrite.serve, execCalRead.serve,
         execRouteLoad.serve, execRouteArm.serve, execRouteDepart.serve, execRouteSync.serve, execRouteClear.serve,
         execWearSeed.serve, execWearService.serve]
       (repeat' split) <;> simp)

/-- Every other command leaves the Envelope Unit as it was. -/
theorem env_kept (i : Instr) (hi : changesEnv i = false) (s t : State) (h : exec i s = .next t) : t.env = s.env := by
  by_cases hr : isRequest i = true
  · exact env_kept_request i hi hr s t h
  cases i <;> first | (cases hi; done) | (exact absurd rfl hr) | skip
  all_goals
    simp only [exec, execHeatInit, dspTakesLoadEnd, execWruLoadingGrade, wruTakesLoadEnd, execDemandTimerExpiry, execHeatUpdate, heatTakesNext, execRteResult, rteTakesNext,
      execEngResultEvaluation, engTakesNext, execCrankTimerExpiry, execPauseTimerExpiry, execWarmTimerExpiry, execStopHoldExpiry,
      execCooldownTimerExpiry, execWruResult, wruTakesNext, execEngineIncrement, wruTakesNextIncrement, execKmDistance, wruTakesNextDistance, execLampTimerExpiry,
      execFrameReceived, execGapTimerExpiry, execFramingFault, execLineBreak, execBreakWaitEnd, execMeasureStart,
      execMeasurementEnd, execStageAnswer, execStageNotice, execEventRaised, execCoalescingTimerExpiry,
      execCharacterReceived, execMeasureFirstRisingEdge, execMeasurementCountOverflow, stateTimerExpiry,
      execCrankTimerExpiry.act, execPauseTimerExpiry.act, execWarmTimerExpiry.act, Host.Outcome.next.injEq] at h
    subst h
    (repeat' split) <;> simp

/-- The commands that can change the Wear Unit. -/
def changesWru : Instr → Bool
  | .powerOn _ | .resetn _ | .wruLoadingGrade | .wruResult | .engineIncrement | .kmDistance | .lampTimerExpiry |
    .calWrite | .wearSeed | .wearService | .transmitEnd => true
  | _ => false

/-- Every other request leaves the Wear Unit as it was. -/
theorem wru_kept_request (i : Instr) (hi : changesWru i = false) (hr : isRequest i = true) (s t : State)
    (h : exec i s = .next t) : t.wru = s.wru := by
  cases i <;> first | (cases hi; done) | (cases hr; done) | skip
  case unknownType => exact execUnknown_keeps State.wru _ (.inl rfl) s t h fun _ _ => rfl
  case queryUnknownTopic => exact execUnknown_keeps State.wru _ (.inr rfl) s t h fun _ _ => rfl
  all_goals
    cases h
    first
    | exact takeQuery_keeps State.wru _ _ _ _ s (fun _ _ => rfl) (by intro s; simp)
    | (refine takeRequest_keeps State.wru _ _ _ s (fun _ _ => rfl) fun f s => ?_
       simp only [execDemand.serve, execStart.serve, execHalt.serve, execRestart.serve, execFaultClear.serve,
         execCalRead.serve, execRouteLoad.serve, execRouteArm.serve, execRouteDepart.serve, execRouteSync.serve,
         execRouteClear.serve, execMapFlush.serve]
       (repeat' split) <;> simp)

/-- Every other command leaves the Wear Unit as it was. -/
theorem wru_kept (i : Instr) (hi : changesWru i = false) (s t : State) (h : exec i s = .next t) : t.wru = s.wru := by
  by_cases hr : isRequest i = true
  · exact wru_kept_request i hi hr s t h
  cases i <;> first | (cases hi; done) | (exact absurd rfl hr) | skip
  all_goals
    simp only [exec, execImageReadEnd, execHeatInit, dspTakesLoadEnd, execDemandTimerExpiry, execHeatUpdate, heatTakesNext, execRteResult, rteTakesNext,
      execEngResultEvaluation, engTakesNext, execCrankTimerExpiry, execPauseTimerExpiry, execWarmTimerExpiry, execStopHoldExpiry,
      execCooldownTimerExpiry, execFillSuccess, execCheckFailure, execFrameReceived, execGapTimerExpiry,
      execFramingFault, execLineBreak, execBreakWaitEnd, execMeasureStart, execMeasurementEnd, execStageAnswer,
      execStageNotice, execEventRaised, execCoalescingTimerExpiry, execCharacterReceived,
      execMeasureFirstRisingEdge, execMeasurementCountOverflow, stateTimerExpiry, execCrankTimerExpiry.act,
      execPauseTimerExpiry.act, execWarmTimerExpiry.act, Host.Outcome.next.injEq] at h
    subst h
    (repeat' split) <;> simp [foldl_raise, State.raising]

/-- The commands that can change the Dispatch Unit. -/
def changesDsp : Instr → Bool
  | .powerOn _ | .resetn _ | .heatInit | .demand | .demandTimerExpiry | .heatUpdate | .start | .halt | .calWrite |
    .transmitEnd => true
  | _ => false

/-- Every other request leaves the Dispatch Unit as it was. -/
theorem dsp_kept_request (i : Instr) (hi : changesDsp i = false) (hr : isRequest i = true) (s t : State)
    (h : exec i s = .next t) : t.dsp = s.dsp := by
  cases i <;> first | (cases hi; done) | (cases hr; done) | skip
  case unknownType => exact execUnknown_keeps State.dsp _ (.inl rfl) s t h fun _ _ => rfl
  case queryUnknownTopic => exact execUnknown_keeps State.dsp _ (.inr rfl) s t h fun _ _ => rfl
  all_goals
    cases h
    first
    | exact takeQuery_keeps State.dsp _ _ _ _ s (fun _ _ => rfl) (by intro s; simp)
    | (refine takeRequest_keeps State.dsp _ _ _ s (fun _ _ => rfl) fun f s => ?_
       simp only [execRestart.serve, execFaultClear.serve, execCalRead.serve, execRouteLoad.serve,
         execRouteArm.serve, execRouteDepart.serve, execRouteSync.serve, execRouteClear.serve, execMapFlush.serve,
         execWearSeed.serve, execWearService.serve]
       (repeat' split) <;> simp)

/-- Every other command leaves the Dispatch Unit as it was. -/
theorem dsp_kept (i : Instr) (hi : changesDsp i = false) (s t : State) (h : exec i s = .next t) : t.dsp = s.dsp := by
  by_cases hr : isRequest i = true
  · exact dsp_kept_request i hi hr s t h
  cases i <;> first | (cases hi; done) | (exact absurd rfl hr) | skip
  all_goals
    simp only [exec, execImageReadEnd, execWruLoadingGrade, wruTakesLoadEnd, execRteResult, rteTakesNext, execEngResultEvaluation, engTakesNext,
      execCrankTimerExpiry, execPauseTimerExpiry, execWarmTimerExpiry, execStopHoldExpiry, execCooldownTimerExpiry,
      execWruResult, wruTakesNext, execEngineIncrement, wruTakesNextIncrement, execKmDistance, wruTakesNextDistance, execLampTimerExpiry, execFillSuccess, execCheckFailure,
      execFrameReceived, execGapTimerExpiry, execFramingFault, execLineBreak, execBreakWaitEnd, execMeasureStart,
      execMeasurementEnd, execStageAnswer, execStageNotice, execEventRaised, execCoalescingTimerExpiry,
      execCharacterReceived, execMeasureFirstRisingEdge, execMeasurementCountOverflow, stateTimerExpiry,
      execCrankTimerExpiry.act, execPauseTimerExpiry.act, execWarmTimerExpiry.act, Host.Outcome.next.injEq] at h
    subst h
    (repeat' split) <;> simp [foldl_raise, State.raising]

/-- The commands that can change the Mode Controller. -/
def changesMdc : Instr → Bool
  | .powerOn _ | .resetn _ | .imageReadEnd _ | .start | .halt | .restart | .calWrite | .transmitEnd => true
  | _ => false

/-- Every other request leaves the Mode Controller as it was. -/
theorem mdc_kept_request (i : Instr) (hi : changesMdc i = false) (hr : isRequest i = true) (s t : State)
    (h : exec i s = .next t) : t.mdc = s.mdc := by
  cases i <;> first | (cases hi; done) | (cases hr; done) | skip
  case unknownType => exact execUnknown_keeps State.mdc _ (.inl rfl) s t h fun _ _ => rfl
  case queryUnknownTopic => exact execUnknown_keeps State.mdc _ (.inr rfl) s t h fun _ _ => rfl
  all_goals
    cases h
    first
    | exact takeQuery_keeps State.mdc _ _ _ _ s (fun _ _ => rfl) (by intro s; simp)
    | (refine takeRequest_keeps State.mdc _ _ _ s (fun _ _ => rfl) fun f s => ?_
       simp only [execDemand.serve, execFaultClear.serve, execCalRead.serve, execRouteLoad.serve,
         execRouteArm.serve, execRouteDepart.serve, execRouteSync.serve, execRouteClear.serve, execMapFlush.serve,
         execWearSeed.serve, execWearService.serve]
       (repeat' split) <;> simp)

/-- Every other command leaves the Mode Controller as it was. -/
theorem mdc_kept (i : Instr) (hi : changesMdc i = false) (s t : State) (h : exec i s = .next t) : t.mdc = s.mdc := by
  by_cases hr : isRequest i = true
  · exact mdc_kept_request i hi hr s t h
  cases i <;> first | (cases hi; done) | (exact absurd rfl hr) | skip
  all_goals
    simp only [exec, execHeatInit, dspTakesLoadEnd, execWruLoadingGrade, wruTakesLoadEnd, execDemandTimerExpiry, execHeatUpdate, heatTakesNext, execRteResult, rteTakesNext,
      execEngResultEvaluation, engTakesNext, execCrankTimerExpiry, execPauseTimerExpiry, execWarmTimerExpiry, execStopHoldExpiry,
      execCooldownTimerExpiry, execWruResult, wruTakesNext, execEngineIncrement, wruTakesNextIncrement, execKmDistance, wruTakesNextDistance, execLampTimerExpiry,
      execFillSuccess, execCheckFailure, execFrameReceived, execGapTimerExpiry, execFramingFault, execLineBreak,
      execBreakWaitEnd, execMeasureStart, execMeasurementEnd, execStageAnswer, execStageNotice, execEventRaised,
      execCoalescingTimerExpiry, execCharacterReceived, execMeasureFirstRisingEdge, execMeasurementCountOverflow,
      stateTimerExpiry, execCrankTimerExpiry.act, execPauseTimerExpiry.act, execWarmTimerExpiry.act,
      Host.Outcome.next.injEq] at h
    subst h
    (repeat' split) <;> simp

end Sys2Proof.Machine
end

