-- ==== Sys2Proof/Laws/Lookup.lean ====
section
/-!
SUPPORT. Which entry a lookup finds (R60, R65, R71).
-/
namespace Sys2Proof.Machine

/-- An entry is one that a lookup of a key finds: it holds the key, and is not a fill marked for discard. -/
def Entry.found (x : Entry) (k : Key) : Prop := x.key = some k ∧ ¬(x.state = .filling ∧ x.discard = true)

/-- The entry that a lookup finds is one of the eight and is to be found. -/
theorem Env.findTile_some {e : Env} {k : Key} {n : Nat} (h : e.findTile k = some n) : n < 8 ∧ (e.entry n).found k := by
  unfold Env.findTile at h
  rw [List.findIdx?_eq_some_iff_getElem] at h
  obtain ⟨hn, hk, -⟩ := h
  have hn : n < 8 := by simpa using hn
  simp only [Vector.getElem_toList, Bool.and_eq_true, beq_iff_eq, Bool.not_eq_true', Bool.and_eq_false_iff] at hk
  simp only [Env.entry, Vector.getElem?_eq_getElem hn, Option.getD_some, Entry.found, hn, true_and]
  exact ⟨hk.1, fun h => by simp [h.1, h.2] at hk⟩

/-- Where a lookup finds no entry, none of the eight is to be found. -/
theorem Env.findTile_none {e : Env} {k : Key} (h : e.findTile k = none) : ∀ n < 8, ¬(e.entry n).found k := by
  intro n hn ⟨hk, hd⟩
  simp only [Env.findTile, List.findIdx?_eq_none_iff] at h
  have hx := h (e.entries[n]) (by simp)
  simp only [Env.entry, Vector.getElem?_eq_getElem hn, Option.getD_some] at hk hd
  simp only [hk, beq_self_eq_true, Bool.true_and, Bool.not_eq_false', Bool.and_eq_true, beq_iff_eq] at hx
  exact hd hx

end Sys2Proof.Machine
end

