-- ==== Sys2Proof/Laws/Restart.lean ====
section
/-!
SUPPORT. What a RESTART's taking of what waits can do: each receiver takes nothing where nothing waits for it.
-/
namespace Sys2Proof.Machine

theorem dspTakesLoadEnd_idle {s : State} (h : s.mail.loadEndDsp = false) : dspTakesLoadEnd s = s := by
  simp [dspTakesLoadEnd, h]

theorem wruTakesLoadEnd_idle {s : State} (h : s.mail.loadEndWru = false) : wruTakesLoadEnd s = s := by
  simp [wruTakesLoadEnd, h]

/-- Where nothing waits between blocks, a RESTART has nothing to take first. -/
theorem takeAllWaiting_idle {s : State} (h1 : s.mail.loadEndDsp = false) (h2 : s.mail.loadEndWru = false)
    (h3 : s.mail.heatIn = []) (h4 : s.mail.rteIn = []) (h5 : s.mail.engIn = []) (h6 : s.mail.wruIn = [])
    (h7 : s.mail.incIn = []) (h8 : s.mail.kmIn = []) : takeAllWaiting s = s := by
  simp [takeAllWaiting, dspTakesLoadEnd_idle h1, wruTakesLoadEnd_idle h2, h3, h4, h5, h6, h7, h8]

end Sys2Proof.Machine
end

