-- ==== Sys2Proof/Laws/Wear.lean ====
section
/-!
SUPPORT. What the operations of the Wear Unit can do: a counter replaced, a level set, a list of counters graded, the lamp set.
-/
namespace Sys2Proof.Machine

/-- The counters after one has been replaced. -/
theorem Wru.counter_setCounter (w : Wru) (c d : Nat) (k : Counter) (h : c < 8) :
    (w.setCounter c k).counter d = if d = c then k else w.counter d := by
  unfold Wru.setCounter Wru.counter
  by_cases e : d = c
  · subst e; simp [h]
  · simp [e, Ne.symm e]

/-- A counter replaced by itself. -/
theorem Wru.setCounter_self (w : Wru) (c : Nat) (h : c < 8) : w.setCounter c (w.counter c) = w := by
  unfold Wru.setCounter Wru.counter
  congr 1
  apply Vector.ext
  intro i hi
  by_cases e : c = i
  · subst e; simp [h]
  · simp [e]

/-- The record that a change of a level raises, if it is one (R142). -/
def levelChange (now : PartTime) (c : Nat) (old new : Level) : List (Block × EventRec) :=
  if new = old then []
  else [(.wru, { kind := .wearLevel, a := c, b := new.code + 256 * old.code, time := now })]

/-- Setting a level changes that level, and raises its change. -/
theorem setLevel_eq (c : Nat) (l : Level) (s : State) (h : c < 8) :
    setLevel c l s =
      (s.setWru (s.wru.setCounter c { s.wru.counter c with level := l })).setMail
        { s.mail with raised := s.mail.raised ++ levelChange s.now c (s.wru.counter c).level l } := by
  unfold setLevel
  by_cases e : l = (s.wru.counter c).level
  · subst e
    simp [levelChange, Wru.setCounter_self _ _ h]
    rfl
  · simp [e, levelChange, raise, State.setMail, State.setWru, State.now]

@[simp] theorem setLevel_cal (c : Nat) (l : Level) (s : State) : (setLevel c l s).cal = s.cal := by
  unfold setLevel; dsimp only; split <;> rfl

@[simp] theorem setLevel_now (c : Nat) (l : Level) (s : State) : (setLevel c l s).now = s.now := by
  unfold setLevel; dsimp only; split <;> rfl

/-- The counters once those of a list have been graded. -/
def Wru.gradedOn (cal : Cal) (l : List Nat) (w : Wru) : Wru :=
  { w with
    counters := Vector.ofFn fun c : Fin 8 =>
      if c.val ∈ l then { w.counter c.val with level := gradeOf cal c.val (w.counter c.val).value } else w.counter c.val }

theorem Wru.counter_gradedOn (cal : Cal) (l : List Nat) (w : Wru) (c : Nat) (h : c < 8) :
    (w.gradedOn cal l).counter c =
      if c ∈ l then { w.counter c with level := gradeOf cal c (w.counter c).value } else w.counter c := by
  simp only [Wru.gradedOn, Wru.counter, Vector.getElem?_ofFn, h, dif_pos, Option.getD_some]

/-- Two Wear Units that agree in every counter and in all else are equal. -/
theorem Wru.ext_counters (w w' : Wru) (hc : ∀ c < 8, w.counter c = w'.counter c) (h : { w with counters := w'.counters } = w') :
    w = w' := by
  have : w.counters = w'.counters := by
    apply Vector.ext
    intro i hi
    have := hc i hi
    simpa [Wru.counter, hi] using this
  rw [← h]
  cases w
  simp_all

/-- Grading a list of different counters. -/
theorem foldl_regrade (l : List Nat) (s : State) (hl : ∀ c ∈ l, c < 8) (hn : l.Nodup) :
    l.foldl (fun s c => regrade c s) s =
      (s.setWru (s.wru.gradedOn s.cal l)).setMail
        { s.mail with
          raised := s.mail.raised
            ++ l.flatMap fun c =>
                levelChange s.now c (s.wru.counter c).level (gradeOf s.cal c (s.wru.counter c).value) } := by
  induction l generalizing s with
  | nil =>
    have : s.wru.gradedOn s.cal [] = s.wru := by
      apply Wru.ext_counters
      · intro c hc; simp [Wru.counter_gradedOn _ _ _ _ hc]
      · rfl
    simp [this]
    rfl
  | cons c rest ih =>
    have hc : c < 8 := hl c (by simp)
    have hr : ∀ d ∈ rest, d < 8 := fun d hd => hl d (by simp [hd])
    obtain ⟨hn1, hn2⟩ := List.nodup_cons.mp hn
    rw [List.foldl_cons, ih _ hr hn2, regrade, setLevel_eq _ _ _ hc]
    have hother : ∀ d ∈ rest, d ≠ c := fun d hd e => hn1 (e ▸ hd)
    have e1 : ((s.wru.setCounter c { s.wru.counter c with level := gradeOf s.cal c (s.wru.counter c).value }).gradedOn
        s.cal rest) = s.wru.gradedOn s.cal (c :: rest) := by
      apply Wru.ext_counters
      · intro d hd
        rw [Wru.counter_gradedOn _ _ _ _ hd, Wru.counter_gradedOn _ _ _ _ hd, Wru.counter_setCounter _ _ _ _ hc]
        by_cases e : d = c
        · subst e; simp [hn1]
        · simp [e]
      · rfl
    have e2 : (rest.flatMap fun d => levelChange s.now d
          ((s.wru.setCounter c { s.wru.counter c with level := gradeOf s.cal c (s.wru.counter c).value }).counter d).level
          (gradeOf s.cal d
            ((s.wru.setCounter c { s.wru.counter c with level := gradeOf s.cal c (s.wru.counter c).value }).counter d).value))
        = rest.flatMap fun d => levelChange s.now d (s.wru.counter d).level (gradeOf s.cal d (s.wru.counter d).value) := by
      apply List.flatMap_congr
      intro d hd
      rw [Wru.counter_setCounter _ _ _ _ hc]
      simp [hother d hd]
    simp [State.setMail, State.setWru, State.cal, State.now] at *
    exact ⟨e1, e2⟩

/-- All eight counters graded. -/
theorem gradeAll_eq (s : State) :
    gradeAll s =
      (s.setWru (s.wru.gradedOn s.cal (List.range 8))).setMail
        { s.mail with
          raised := s.mail.raised
            ++ (List.range 8).flatMap fun c =>
                levelChange s.now c (s.wru.counter c).level (gradeOf s.cal c (s.wru.counter c).value) } :=
  foldl_regrade _ _ (by simp) (by decide)

/-- Setting the lamp changes the Wear Unit only. -/
theorem setLamp_eq (s : State) :
    setLamp s = s.setWru
      (if lampPatternFor s.wru = s.wru.pattern then s.wru else s.wru.enterPattern (lampPatternFor s.wru) s.now) := by
  unfold setLamp; dsimp only; split <;> simp

/-- All that the setting of the lamp can do (R143): nothing to the counters, and to the lamp what follows from them. -/
theorem setLamp_follows (s : State) : LampFollows s.wru (setLamp s).wru s.mdc.partTime := by
  simp only [setLamp]
  split
  · rename_i h
    exact ⟨h.symm, fun _ => ⟨rfl, rfl, rfl⟩, fun h => absurd rfl h, fun h => absurd rfl h, fun h => absurd rfl h⟩
  · rename_i h
    cases hp : lampPatternFor s.wru <;>
      (rw [hp] at h
       constructor <;> simp_all [Wru.enterPattern, lampPatternFor, after, State.now])

end Sys2Proof.Machine
end

