-- ==== Sys2Proof/WellFormed.lean ====
section
/-!
DEFINITION. Which commands are well formed: the map data a command carries lists each address once, in rising order, inside
the 24-bit address space (R52), and a measurement count fits its 16 bits (R164). The meanings are total: they are defined on
every command, well formed or not.
-/
namespace Sys2Proof

/-- Addresses rise strictly. -/
def MapData.rising : MapData → Bool
  | [] => true
  | [_] => true
  | c :: d :: rest => decide (c.1 < d.1) && MapData.rising (d :: rest)

/-- Every address has 24 bits (R52). -/
def MapData.inSpace (m : MapData) : Bool := m.all fun c => decide (c.1 < 16777216)

/-- The checks on a command's operands. -/
def Instr.wellFormed : Instr → Bool
  | .imageReadEnd m | .fillSuccess m | .checkFailure m => m.rising && m.inSpace
  | .measurementEnd n => decide (n ≤ 65535)
  | .powerOn _ | .resetn _ | .heatInit | .wruLoadingGrade | .demand | .demandTimerExpiry | .heatUpdate | .rteResult
  | .engResultEvaluation | .crankTimerExpiry | .pauseTimerExpiry | .warmTimerExpiry | .stopHoldExpiry
  | .cooldownTimerExpiry | .wruResult | .engineIncrement | .kmDistance | .lampTimerExpiry | .start | .halt | .restart
  | .faultClear | .calWrite | .calRead | .routeLoad | .routeArm | .routeDepart | .routeSync | .routeClear | .mapFlush
  | .wearSeed | .wearService | .queryStatus | .queryWearA | .queryWearB | .queryPredict | .queryRoute | .queryStartsA
  | .queryStartsB | .queryMap | .unknownType | .frameReceived _ | .gapTimerExpiry | .framingFault _ | .lineBreak _
  | .breakWaitEnd _ | .measureStart | .stageAnswer | .stageNotice | .transmitEnd | .eventRaised _
  | .coalescingTimerExpiry | .characterReceived _ | .measureFirstRisingEdge | .measurementCountOverflow
  | .queryUnknownTopic => true

end Sys2Proof
end

