-- ==== Sys2Proof/Tests/Slice0.lean ====
section
/-!
SUPPORT. Tests: what the well-formedness checks refuse; single commands against the figures of the manual; and, for each
statement with hypotheses, a state and operands that meet them, for each of its clauses.
-/
namespace Sys2Proof.Tests
open Sys2Proof.Machine

/-! ## Well-formedness -/

theorem test_wf_accepts : (Instr.fillSuccess [(0, 1), (5, 2), (16777215, 3)]).wellFormed = true := by decide
theorem test_wf_refuses_repeated_address : (Instr.imageReadEnd [(5, 1), (5, 2)]).wellFormed = false := by decide
theorem test_wf_refuses_falling_addresses : (Instr.checkFailure [(6, 1), (5, 2)]).wellFormed = false := by decide
theorem test_wf_refuses_address_beyond_24_bits : (Instr.fillSuccess [(16777216, 1)]).wellFormed = false := by decide
theorem test_wf_refuses_17_bit_count : (Instr.measurementEnd 65536).wellFormed = false := by decide
theorem test_wf_accepts_16_bit_count : (Instr.measurementEnd 65535).wellFormed = true := by decide

/-- The table gives no row bits, so no word spells a command. -/
theorem test_no_word_spells_a_command : decodeTableWord 8 0 = none := rfl

/-! ## States for the tests -/

/-- The part in CONFIG after a power-on, with the ends of LOADING taken. -/
def inConfig : State :=
  { State.reset with
    mdc := { State.reset.mdc with op := .config }
    env := Env.reset
    dsp := { State.reset.dsp with heat := 160000000, heatSet := true } }

/-- The part in ACTIVE with the permit ON and the last DEMAND 20 ms ago. -/
def inActive : State :=
  { inConfig with
    mdc := { inConfig.mdc with op := .active, partTime := 1000 }
    dsp := { inConfig.dsp with permit := .on, tpermit := true, lastDemand := some 980, demandTimer := some 1080 } }

/-- With one frame in the intake queue. -/
def asking (f : Frame) (s : State) : State := { s with lnk := { s.lnk with intake := [f] } }

/-- With one segment record in slot 0, and the cursor in it, on a plan of slot 0 that stops. -/
def onSegment (g : Segment) (qd : Option Nat) (s : State) : State :=
  { s with
    rte :=
      { s.rte with
        table := s.rte.table.set 0 (some g)
        plan := some { first := 0, last := 0, start := 0, dir := .forward, endAction := .stop, wrap := 0, laps := 0 }
        cursor := if g.kind = .run then .running else .holding
        remaining := g.len * 10000
        look := some { socTarget := 5500, qd, r := 0, d := 0, floorQ := 0 } } }

/-- The level HOLD segment of a zone. -/
def stopIn (zone : Zone) : Segment := { kind := .hold, zone, len := 0, grade := 0, floor := 0 }

/-- A RUN segment of 10 m. -/
def shortRun : Segment := { kind := .run, zone := .open_, len := 1, grade := 0, floor := 0 }

/-- A result record with this SoC and engine signal. -/
def resultOf (soc : Nat) (eRun : Bool) : ResultRecord :=
  { mode := .coasting, v := 400, dt := 20, soc, eRun, shares := Shares.zero, flags := DispatchFlags.clear, w := 256 }

/-- The engine in a state, with a run-start time 100 s ago and one record waiting for it. -/
def engineIn (st : EngState) (x : ResultRecord) (s : State) : State :=
  { s with
    mdc := { s.mdc with partTime := 200000 }
    eng := { s.eng with state := st, runStart := some 100000 }
    mail := { s.mail with engIn := [x] } }

/-- SEEDED. -/
def seeded (s : State) : State := { s with wru := { s.wru with seeded := true } }

/-- The state after a command that goes on. -/
def afterwards (o : Out) : State :=
  match o with
  | .next t => t
  | .fault _ | .refused _ => State.reset

/-- The DISPATCH that a DEMAND on an empty reply queue is answered with. -/
def dispatched (s : State) : Option DispatchMsg :=
  match (afterwards (exec .demand s)).lnk.replies with
  | [.dispatch m] => some m
  | _ => none

/-- The payload of a DEMAND. -/
def demandOf (a b v aux soc temp dis chg e gen : Nat) : List Byte :=
  be16 a ++ be16 b ++ be16 v ++ be16 aux ++ be16 soc ++ be16 temp ++ be16 dis ++ be16 chg ++ [byte e] ++ be16 gen

theorem asking_serves (f : Frame) (s : State) (h : mayTake s = true) : Serves (asking f s) f [] := by
  simp only [mayTake, Bool.and_eq_true, decide_eq_true_eq, Bool.not_eq_true', Config.replyDepth] at h
  exact ⟨rfl, h.1.1, h.1.2, h.2⟩

theorem config_serves (f : Frame) : Serves (asking f inConfig) f [] := asking_serves f _ (by decide)
theorem active_serves (f : Frame) : Serves (asking f inActive) f [] := asking_serves f _ (by decide)

theorem dispatched_spec {s : State} {m : DispatchMsg} (hr : s.lnk.replies = []) (h : dispatched s = some m) :
    ∃ t, exec .demand s = .next t ∧ t.lnk.replies = s.lnk.replies ++ [.dispatch m] := by
  refine ⟨_, rfl, ?_⟩
  unfold dispatched at h
  split at h
  · rename_i heq
    cases h
    rw [hr]
    exact heq
  · cases h

/-! ## Single commands against the manual -/

/-- The check value of R166. -/
theorem test_crc : crc16 [0x31, 0x32, 0x33, 0x34, 0x35, 0x36, 0x37, 0x38, 0x39] = 0x29B1 := by decide +kernel

/-- The measurements of Table 8-4. -/
theorem test_divisors : [160, 320, 640, 1280, 15360].map measuredDivisor = [0, 2, 4, 9, 119] := by decide
theorem test_divisor_above_255_is_rejected : measureAccepted false 61440 = false := by decide

/-- Cell (10, 5) of 03 section 3.2: 0x0960, 0x0578, 0x0100, check 0xF027. -/
theorem test_cell_check :
    cellPasses
      [(0x1398, 0x09), (0x1399, 0x60), (0x139A, 0x05), (0x139B, 0x78), (0x139C, 0x01), (0x139D, 0x00), (0x139E, 0xF0),
        (0x139F, 0x27)] (cellAddress 10 5) = true := by decide +kernel

/-- The state of 01 section 1.13 (Tables 1-14 and 1-15). -/
def motoringCase : State :=
  let s := asking ⟨0x10, demandOf 600 0 250 180 5200 47 2200 1200 1 1600⟩ (seeded inActive)
  { s with
    dsp := { s.dsp with genPrev := 700 }
    eng := { s.eng with state := .running, runStart := some 0 }
    rte := { s.rte with look := some { socTarget := 5800, qd := none, r := 0, d := 0, floorQ := 0 } }
    wru := s.wru.setCounter 3 { Counter.reset with level := .service }
    env :=
      s.env.setEntry 0
        { state := .valid, key := some ⟨10, 5⟩
          cells := [⟨2400, 1400, 256⟩, ⟨2300, 1200, 280⟩, ⟨2500, 1500, 300⟩, ⟨2400, 1300, 320⟩]
          attempts := 0, discard := false } }

/-- Table 1-17. -/
theorem test_motoring_case :
    (dispatched motoringCase).map (fun m => (m.mode, m.shares, m.disEff, m.chgEff, m.w, m.dt))
      = some (.motoring, ⟨1249, 800, 629, 0, 0, 0, 0, 0⟩, 2200, 1200, 291, 20) := by decide +kernel

/-- The state of 02 section 2.12 (Table 2-7). -/
def brakingCase : State :=
  let s := asking ⟨0x10, demandOf 0 400 400 150 5200 47 2200 300 1 1600⟩ (seeded inActive)
  { s with
    dsp := { s.dsp with genPrev := 800, heat := 150000000 }
    env :=
      s.env.setEntry 0
        { state := .valid, key := some ⟨10, 5⟩, cells := List.replicate 4 ⟨2200, 300, 256⟩, attempts := 0
          discard := false } }

/-- Table 2-9. -/
theorem test_braking_case :
    (dispatched brakingCase).map (fun m => (m.mode, m.shares, m.flags.regenLimited, m.flags.resistorDerated))
      = some (.braking, ⟨-1950, 0, -300, 1500, 450, 270, 180, 0⟩, true, false) := by decide +kernel

/-- The heat update of 02 section 2.12. -/
theorem test_heat_update :
    heatAfter Cal.defaults 150000000 { resultOf 0 true with shares := ⟨-1950, 0, -300, 1500, 450, 270, 180, 0⟩ }
      = 150029000 := by decide +kernel

/-- The distance and carry of 01 section 1.13. -/
theorem test_odometry :
    odometryDistance Rte.reset 250 20 = 138 ∧ odometryNumerator Rte.reset 250 20 % 147456 = 131072 := by decide +kernel

/-- The route of 05 section 5.11, in slots 20 to 24. -/
def worked511 : Rte :=
  { Rte.reset with
    table :=
      ((((Rte.reset.table.set 20 (some { kind := .run, zone := .open_, len := 40, grade := 2, floor := 0 })).set 21
        (some { kind := .run, zone := .open_, len := 30, grade := -4, floor := 0 })).set 22
        (some { kind := .run, zone := .quiet, len := 50, grade := 1, floor := 6500 })).set 23
        (some { kind := .run, zone := .quiet, len := 20, grade := 0, floor := 0 })).set 24
        (some { kind := .run, zone := .open_, len := 60, grade := -6, floor := 0 })
    cursor := .running, index := 20, remaining := 400000 }

/-- Table 5-8. -/
theorem test_lookahead :
    lookahead Cal.defaults worked511
        { first := 20, last := 24, start := 20, dir := .forward, endAction := .stop, wrap := 20, laps := 0 }
      = { socTarget := 6500, qd := some 700000, r := 217, d := 175, floorQ := 6500 } := by decide +kernel

/-- The trims of 05 section 5.12, in a segment of len 50. -/
theorem test_trims :
    [18432000, 17000000, 16000000].map
        (fun raw => trimNew { onSegment { shortRun with len := 50 } none State.reset |>.rte with raw })
      = [4000, 4336, 4608] := by decide +kernel

/-- The turn of 05 section 5.13: 500 mm beyond the end of segment 12. -/
theorem test_turn :
    (moveOn { first := 10, last := 12, start := 10, dir := .forward, endAction := .turn, wrap := 10, laps := 0 } 500
        { State.reset with
          rte :=
            { Rte.reset with
              table := Rte.reset.table.set 11 (some { kind := .run, zone := .open_, len := 40, grade := 3, floor := 0 })
              index := 12 } }).rte.remaining = 399500 := by decide +kernel

/-- BRK1 and RESIST of Table 6-6. -/
theorem test_residues :
    let s := feedResidue 0 10000 5400 { State.reset with wru := Wru.reset.setCounter 0 ⟨349999, 7100, false, .none⟩ }
    ((s.wru.counter 0).value, (s.wru.counter 0).residue, s.wru.kmTally 0) = (350000, 2500, 1) := by decide +kernel

/-- HOTSTOP of Table 6-7. -/
theorem test_seed_saturates :
    (({ Counter.reset with value := 9 } : Counter).seed 4294967290).value = 4294967295
      ∧ (({ Counter.reset with value := 9 } : Counter).seed 4294967290).saturated = true := by decide

/-- The prediction of 06 section 6.11. -/
theorem test_prediction :
    prediction (Cal.defaults.set 97 450000)
      { Wru.reset with
        counters := Wru.reset.counters.set 0 ⟨412000, 0, false, .none⟩
        ring := Wru.reset.ring.set 0 (List.replicate 15 180 ++ [140])
        seeded := true } 0 = 214 := by decide +kernel

/-- The defaults pass every START check (R157, Table 7-4). -/
theorem test_defaults_pass_start : Cal.defaults.firstFailure = none := by decide +kernel

/-- R157 check 1: a third bias on a bus of two axles. -/
theorem test_bias3_fails_start : (Cal.defaults.set 31 1).firstFailure = some 31 := by decide +kernel

/-- e_rate at grade −12 (Table 7-4: −45 at id 64). -/
theorem test_e_rate : Cal.defaults.eRate (-12) = -45 := by decide +kernel

/-- An image of all ones with its CRC. -/
def blankImage : MapData := [(512, 0x69), (513, 0x95)]

theorem test_blank_image_is_valid : imageValid blankImage = true := by
  have h1 : (List.replicate 64 0xFF).foldl crcByte 0xFFFF#16 = 61780#16 := by decide +kernel
  have h2 : (List.replicate 64 0xFF).foldl crcByte 61780#16 = 7587#16 := by decide +kernel
  have h3 : (List.replicate 64 0xFF).foldl crcByte 7587#16 = 4803#16 := by decide +kernel
  have h4 : (List.replicate 64 0xFF).foldl crcByte 4803#16 = 23343#16 := by decide +kernel
  have h5 : (List.replicate 64 0xFF).foldl crcByte 23343#16 = 39520#16 := by decide +kernel
  have h6 : (List.replicate 64 0xFF).foldl crcByte 39520#16 = 31199#16 := by decide +kernel
  have h7 : (List.replicate 64 0xFF).foldl crcByte 31199#16 = 65393#16 := by decide +kernel
  have h8 : (List.replicate 64 0xFF).foldl crcByte 65393#16 = 27029#16 := by decide +kernel
  have hb : imageBytes blankImage 0 512 = (List.replicate 8 (List.replicate 64 0xFF)).flatten := by decide +kernel
  simp only [imageValid, hb, crc16, List.replicate_succ, List.replicate_zero, List.flatten_cons, List.flatten_nil,
    List.append_nil, List.foldl_append]
  simp only [List.replicate_succ, List.replicate_zero] at h1 h2 h3 h4 h5 h6 h7 h8
  rw [h1, h2, h3, h4, h5, h6, h7, h8]
  decide +kernel

/-- A map memory that drives no line returns an image of all ones, whose CRC disagrees. -/
theorem test_empty_image_is_invalid : imageValid [] = false := by
  have h : imageBytes [] 0 512 = imageBytes blankImage 0 512 := by decide +kernel
  have := test_blank_image_is_valid
  simp only [imageValid, beq_iff_eq] at this ⊢
  rw [h, this]
  decide +kernel

/-! ## Witnesses: for each statement, states that meet the hypotheses of its clauses -/

theorem witness_StepRunsFrontCommand :
    ({ inConfig with pending := [.heatInit] } : State).pending = .heatInit :: [] := rfl

theorem witness_EmptyQueueTicks : State.reset.pending = [] := rfl

theorem witness_PowerOnValues : inActive.pending = [] := rfl

theorem witness_ImageReadEnds :
    State.reset.mdc.op = .loading ∧ State.reset.env.port = .imageRead ∧ calKnown 0 = true ∧ calKnown 119 = true := by
  decide +kernel

theorem witness_LoadingEndTaken :
    ∃ s : State, s.mail.loadEndDsp = true ∧ s.mail.loadEndWru = true ∧ s.wru.seeded = false
      ∧ (seeded s).mail.loadEndWru = true ∧ (seeded s).wru.seeded = true :=
  ⟨{ inConfig with mail := { inConfig.mail with loadEndDsp := true, loadEndWru := true } }, by decide⟩

/-- The set of R157 that fails each check first, and the defaults, which fail none. -/
theorem witness_StartServed_checks :
    (Cal.defaults.set 31 1).firstFailure = some 31
      ∧ (Cal.defaults.set 29 54).firstFailure = some 29
      ∧ (Cal.defaults.set 34 (Cal.defaults.get 49)).firstFailure = some 34
      ∧ (Cal.defaults.set 48 (Cal.defaults.get 49 - 1)).firstFailure = some 49
      ∧ (Cal.defaults.set 50 (Cal.defaults.get 48 - 1)).firstFailure = some 48
      ∧ (((Cal.defaults.set 96 5).set 98 4).set 119 1).firstFailure = some 98
      ∧ ((Cal.defaults.set 117 2).set 119 1).firstFailure = some 119
      ∧ (Cal.defaults.set 19 (Cal.defaults.get 18 + 1)).firstFailure = some 19
      ∧ Cal.defaults.firstFailure = none := by
  decide +kernel

theorem witness_StartServed :
    (∃ s rest, Serves s ⟨0x20, []⟩ rest ∧ s.mdc.op = .active)
      ∧ (∃ s rest, Serves s ⟨0x20, []⟩ rest ∧ s.mdc.op = .config ∧ s.cal.firstFailure = none
          ∧ s.mail.loadEndDsp = false ∧ s.mail.loadEndWru = false)
      ∧ (∃ s rest, Serves s ⟨0x20, []⟩ rest ∧ s.mdc.op = .config ∧ s.cal.firstFailure = some 31) :=
  ⟨⟨_, _, active_serves _, rfl⟩, ⟨_, _, config_serves _, rfl, test_defaults_pass_start, rfl, rfl⟩,
    ⟨asking _ { inConfig with mdc := { inConfig.mdc with cal := Cal.defaults.set 31 1 } }, _,
      asking_serves _ _ (by decide), rfl, test_bias3_fails_start⟩⟩

theorem witness_HaltServed :
    (∃ s rest, Serves s ⟨0x21, []⟩ rest ∧ s.mdc.op = .config)
      ∧ (∃ s rest, Serves s ⟨0x21, []⟩ rest ∧ s.mdc.op = .active ∧ s.mail.engIn = [] ∧ s.mail.rteIn = []) :=
  ⟨⟨_, _, config_serves _, rfl⟩, ⟨_, _, active_serves _, rfl, rfl, rfl⟩⟩

/-- A staged frame. -/
def staged (restartReply : Bool) : Staged :=
  { bytes := [], flags := ⟨false, false, false, false⟩, restartReply, newDropped := false, newCheckErr := false }

/-- The end of the DONE reply of a RESTART, with this in flight between the blocks. -/
def restarting (mail : Mail) : State :=
  { inActive with mail, lnk := { inActive.lnk with transmitting := some (staged true) } }

/-- The end of another frame, with a waiting frame in READY that carries DROPPED, discarded again or not; the end of the DONE
reply of a RESTART with nothing waiting, from a running and from a stopped engine, and with something waiting at each place. -/
theorem witness_RestartAndTransmitEnd :
    (∃ s rest, Serves s ⟨0x22, []⟩ rest)
      ∧ (∀ again : Bool, ∃ (s : State) (w : Staged), s.lnk.transmitting = some (staged false)
          ∧ s.lnk.state = .ready ∧ s.lnk.waiting = some w ∧ w.flags.dropped = true ∧ w.newDropped = again)
      ∧ (∀ e ∈ [EngState.running, .stopped], ∃ s : State, s.lnk.transmitting = some (staged true) ∧ s.eng.state = e
          ∧ s.mail = Mail.reset)
      ∧ (∀ mail ∈
            [{ Mail.reset with loadEndDsp := true, loadEndWru := true }, { Mail.reset with loadEndWru := true },
              { Mail.reset with heatIn := [resultOf 5500 true] }, { Mail.reset with rteIn := [resultOf 5500 true] },
              { Mail.reset with engIn := [resultOf 5500 true] }, { Mail.reset with wruIn := [resultOf 5500 true] },
              { Mail.reset with incIn := [(4, 1)] }, { Mail.reset with kmIn := [138] }],
          ∃ s : State, s.lnk.transmitting = some (staged true) ∧ s.mail = mail) :=
  ⟨⟨_, _, active_serves _⟩,
    fun again =>
      ⟨{ inActive with
          lnk :=
            { inActive.lnk with
              transmitting := some (staged false)
              waiting := some { staged false with flags := ⟨true, false, false, false⟩, newDropped := again } } },
        _, rfl, rfl, rfl, rfl, rfl⟩,
    fun e _ => ⟨{ restarting Mail.reset with eng := { inActive.eng with state := e } }, rfl, rfl, rfl⟩,
    fun mail _ => ⟨restarting mail, rfl, rfl⟩⟩

theorem witness_CalRequestsServed :
    (∃ s rest, Serves s ⟨0x30, [27, 0, 0, 0, 100]⟩ rest ∧ s.mdc.op = .active)
      ∧ (∃ s rest, Serves s ⟨0x30, [15, 0, 0, 0, 0]⟩ rest ∧ s.mdc.op = .config ∧ calKnown 15 = false)
      ∧ (∀ id ∈ [(26 : Byte), 27, 88, 96, 119], ∃ s rest, Serves s ⟨0x30, [id, 0, 0, 0, 1]⟩ rest ∧ s.mdc.op = .config
          ∧ calKnown id.toNat = true ∧ s.mail.heatIn = [] ∧ s.mail.loadEndDsp = false ∧ s.mail.loadEndWru = false
          ∧ s.wru.seeded = false)
      ∧ (∃ s rest, Serves s ⟨0x30, [119, 255, 255, 255, 255]⟩ rest ∧ s.mdc.op = .config ∧ s.mail.loadEndWru = false
          ∧ s.wru.seeded = true)
      ∧ (∃ s rest, Serves s ⟨0x31, [127]⟩ rest) :=
  ⟨⟨_, _, active_serves _, rfl⟩, ⟨_, _, config_serves _, rfl, by decide⟩,
    fun id h => ⟨_, _, config_serves _, rfl, by revert id; decide, rfl, rfl, rfl, rfl⟩,
    ⟨_, _, asking_serves _ (seeded inConfig) (by decide), rfl, rfl, rfl⟩, ⟨_, _, active_serves _⟩⟩

theorem witness_DemandNotActive :
    ∃ s rest, Serves s ⟨0x10, List.replicate 19 0xFF⟩ rest ∧ (List.replicate 19 (0xFF : Byte)).length = 19
      ∧ s.mdc.op = .config ∧ s.mail.heatIn = [] ∧ s.mail.loadEndDsp = false :=
  ⟨_, _, config_serves _, rfl, rfl, rfl, rfl⟩

theorem witness_DemandDispatched :
    ∃ s rest, Serves s ⟨0x10, List.replicate 19 0⟩ rest ∧ (List.replicate 19 (0 : Byte)).length = 19 ∧ s.mdc.op = .active
      ∧ s.mail.heatIn = [] ∧ s.mail.loadEndDsp = false :=
  ⟨_, _, active_serves _, rfl, rfl, rfl, rfl⟩

/-- What a dispatch reads, at this brake. -/
def inputAt (b : Nat) : DispatchInput :=
  { fields := { demandFields (List.replicate 19 0) with b }
    permit := .on, engine := .running, zone := .open_, socTarget := 5500, disEff := 0, chgEff := 0, envFlag := .fresh
    resistLevel := .none, heat := 0, genPrev := 0, cal := Cal.defaults }

theorem witness_SplitShares : (inputAt 19).fields.b < (inputAt 19).cal.brakeDb := by decide +kernel

theorem witness_BlendShares : (inputAt 20).cal.brakeDb ≤ (inputAt 20).fields.b := by decide +kernel

/-- Every known id of the defaults holds a value of its range. -/
theorem defaults_inRange : Cal.defaults.InRange := by
  unfold Cal.InRange
  decide +kernel

/-- MDC and DSP keep what they keep in ACTIVE. -/
theorem control_active (f : Frame) (w : Wru) (e : Env) (r : Rte) (g : Eng) (heat : Nat) (gen : Nat)
    (hh : heat ≤ Cal.defaults.heatCap) (hg : gen ≤ 32767) (he : e.port = .idle) :
    ControlInv
      { asking f inActive with
        wru := w, env := e, rte := r, eng := g, dsp := { inActive.dsp with heat, genPrev := gen } } where
  line := by simp [inActive]
  permit := by simp [asking, inActive]
  idle := by intro h; exact absurd rfl h
  genPrev := ⟨Int.natCast_nonneg gen, Int.ofNat_le.mpr hg⟩
  heat := fun _ => hh
  heatSet := fun _ _ => rfl
  port := by simp [asking, inActive, inConfig, he]
  noMap := fun _ => he
  ranges := defaults_inRange
  checked := fun _ => test_defaults_pass_start
  loaded := fun _ => ⟨rfl, rfl⟩
  drained := fun h => absurd rfl h

/-- Both worked cases meet the control invariant. -/
theorem control_cases : ControlInv motoringCase ∧ ControlInv brakingCase :=
  ⟨control_active _ _ _ _ _ 160000000 700 (by decide +kernel) (by decide) rfl,
    control_active _ _ _ _ _ 150000000 800 (by decide +kernel) (by decide) rfl⟩

theorem motoring_serves : Serves motoringCase ⟨0x10, demandOf 600 0 250 180 5200 47 2200 1200 1 1600⟩ [] :=
  ⟨rfl, by decide, rfl, by decide⟩

theorem braking_serves : Serves brakingCase ⟨0x10, demandOf 0 400 400 150 5200 47 2200 300 1 1600⟩ [] :=
  ⟨rfl, by decide, rfl, by decide⟩

/-- A DISPATCH of each worked case. -/
theorem witness_PowerBalance :
    (∃ s t p rest m, Serves s ⟨0x10, p⟩ rest ∧ ControlInv s ∧ exec .demand s = .next t
      ∧ t.lnk.replies = s.lnk.replies ++ [.dispatch m] ∧ m.mode = .motoring)
      ∧ (∃ s t p rest m, Serves s ⟨0x10, p⟩ rest ∧ ControlInv s ∧ exec .demand s = .next t
        ∧ t.lnk.replies = s.lnk.replies ++ [.dispatch m] ∧ m.mode = .braking) := by
  have h1 : ((dispatched motoringCase).map DispatchMsg.mode) = some .motoring := by decide +kernel
  have h2 : ((dispatched brakingCase).map DispatchMsg.mode) = some .braking := by decide +kernel
  obtain ⟨m1, e1, f1⟩ := Option.map_eq_some_iff.mp h1
  obtain ⟨m2, e2, f2⟩ := Option.map_eq_some_iff.mp h2
  obtain ⟨t1, g1, k1⟩ := dispatched_spec rfl e1
  obtain ⟨t2, g2, k2⟩ := dispatched_spec rfl e2
  exact ⟨⟨_, t1, _, _, m1, motoring_serves, control_cases.1, g1, k1, f1⟩,
    ⟨_, t2, _, _, m2, braking_serves, control_cases.2, g2, k2, f2⟩⟩

/-- A DEMAND that overloads the auxiliaries: no limit on the battery in either direction, 0.1 kW of auxiliary power. -/
def overloadCase : State := asking ⟨0x10, demandOf 0 0 0 1 5500 0 0 0 0 0⟩ inActive

theorem witness_BatteryWithinLimits :
    ∃ s t p rest m, Serves s ⟨0x10, p⟩ rest ∧ s.mdc.op = .active ∧ exec .demand s = .next t
      ∧ t.lnk.replies = s.lnk.replies ++ [.dispatch m] ∧ m.flags.auxOverload = true := by
  have h : ((dispatched overloadCase).map fun m => m.flags.auxOverload) = some true := by decide +kernel
  obtain ⟨m, e, f⟩ := Option.map_eq_some_iff.mp h
  obtain ⟨t, g, k⟩ := dispatched_spec rfl e
  exact ⟨_, t, _, _, m, active_serves _, rfl, g, k, f⟩

/-- The motoring case during warm-up: the generator is held to p_warm (300 by default). -/
theorem witness_GeneratorBounds :
    ∃ s t p rest m, Serves s ⟨0x10, p⟩ rest ∧ exec .demand s = .next t ∧ t.lnk.replies = s.lnk.replies ++ [.dispatch m]
      ∧ s.eng.state = .warmup ∧ m.shares.gen = 300 := by
  have h : ((dispatched { motoringCase with eng := { motoringCase.eng with state := .warmup } }).map
      fun m => m.shares.gen) = some 300 := by decide +kernel
  obtain ⟨m, e, f⟩ := Option.map_eq_some_iff.mp h
  obtain ⟨t, g, k⟩ := dispatched_spec rfl e
  exact ⟨_, t, _, _, m, ⟨rfl, by decide, rfl, by decide⟩, g, k, rfl, f⟩

/-- The motoring case before the first release; and a step in ACTIVE. -/
theorem witness_MotorPermitAgreement :
    (∃ s t p rest m, Serves s ⟨0x10, p⟩ rest ∧ exec .demand s = .next t ∧ t.lnk.replies = s.lnk.replies ++ [.dispatch m]
      ∧ m.permit ≠ .on)
      ∧ (∃ s t : State, (s.dsp.tpermit = true ↔ s.dsp.permit = .on) ∧ step s = .next t) := by
  have h : ((dispatched { motoringCase with
      dsp := { motoringCase.dsp with permit := .waitRelease, tpermit := false } }).map DispatchMsg.permit)
        = some .waitRelease := by decide +kernel
  obtain ⟨m, e, f⟩ := Option.map_eq_some_iff.mp h
  obtain ⟨t, g, k⟩ := dispatched_spec rfl e
  exact ⟨⟨_, t, _, _, m, ⟨rfl, by decide, rfl, by decide⟩, g, k, by simp [f]⟩, ⟨inActive, _, by decide, rfl⟩⟩

theorem witness_BrakingBalance :
    ∃ s t p rest m, Serves s ⟨0x10, p⟩ rest ∧ exec .demand s = .next t ∧ t.lnk.replies = s.lnk.replies ++ [.dispatch m]
      ∧ m.mode = .braking := by
  obtain ⟨s, t, p, rest, m, h1, -, h2, h3, h4⟩ := witness_PowerBalance.2
  exact ⟨s, t, p, rest, m, h1, h2, h3, h4⟩

theorem witness_LimitsWithinReports :
    ∃ s t p rest m, Serves s ⟨0x10, p⟩ rest ∧ exec .demand s = .next t
      ∧ t.lnk.replies = s.lnk.replies ++ [.dispatch m] := by
  obtain ⟨s, t, p, rest, m, h1, -, h2, h3, -⟩ := witness_PowerBalance.1
  exact ⟨s, t, p, rest, m, h1, h2, h3⟩

/-- The demand timer at its expiry time, and 2^31 − 1 ms beyond it; and a record for the heat model. -/
theorem witness_DspEvents :
    (∃ (s : State) (e : PartTime), s.dsp.demandTimer = some e ∧ elapsed s.mdc.partTime e = 0 ∧ s.dsp.permit = .on)
      ∧ (∃ (s : State) (e : PartTime), s.dsp.demandTimer = some e ∧ elapsed s.mdc.partTime e = 2147483647)
      ∧ (∃ (s : State) (x : ResultRecord) (rest : List ResultRecord), s.mail.heatIn = x :: rest) :=
  ⟨⟨{ inActive with mdc := { inActive.mdc with partTime := 1080 } }, 1080, rfl, by decide, rfl⟩,
    ⟨{ inActive with mdc := { inActive.mdc with partTime := 1080 + 2147483647 } }, 1080, rfl, by decide⟩,
    ⟨{ inActive with mail := { inActive.mail with heatIn := [resultOf 5500 true] } }, _, _, rfl⟩⟩

/-! ### The envelope -/

theorem witness_LookupArithmetic : (10000 ≤ 10000) ∧ (10 ≤ 10) ∧ (1000 ≤ 1000) := by decide

/-- An entry with a key. -/
def entryOf (state : EntryState) (key : Key) (attempts : Nat) : Entry :=
  { state, key := some key, cells := if state = .valid then List.replicate 4 ⟨2200, 300, 256⟩ else [], attempts
    discard := false }

/-- A cache in the middle of a fill: a VALID, a DEFECTIVE and a FILLING entry at corners of the map, and a pending key. -/
def busyCache : Env :=
  { ((Env.reset.setEntry 0 (entryOf .valid ⟨0, 0⟩ 2)).setEntry 1 (entryOf .defective ⟨14, 9⟩ 3)).setEntry 7
      (entryOf .filling ⟨14, 0⟩ 2) with
    port := .fill, pendingKey := some ⟨0, 9⟩, afterRead := true }

theorem busyCache_inv : busyCache.Inv where
  ranks := by decide
  keys := by decide +kernel
  keyed := by decide +kernel
  oneFill := by decide +kernel
  port := by decide +kernel
  cells := by decide +kernel
  attempts := by decide +kernel
  pending := fun _ => rfl
  gap := ⟨fun _ => rfl, fun _ _ _ _ => rfl⟩
  keyRange := by decide +kernel
  pendingRange := by decide +kernel

/-- The same cache after a MAP_FLUSH: the fill in progress is marked for discard. -/
def flushedCache : Env :=
  { Env.reset.setEntry 7 { entryOf .filling ⟨14, 0⟩ 2 with discard := true } with port := .fill, afterRead := true }

theorem flushedCache_inv : flushedCache.Inv where
  ranks := by decide
  keys := by decide +kernel
  keyed := by decide +kernel
  oneFill := by decide +kernel
  port := by decide +kernel
  cells := by decide +kernel
  attempts := by decide +kernel
  pending := fun _ => rfl
  gap := ⟨fun _ => rfl, fun _ _ _ _ => rfl⟩
  keyRange := by decide +kernel
  pendingRange := by decide +kernel

/-- A cache that is not filling. -/
def restingCache : Env := { Env.reset.setEntry 0 (entryOf .valid ⟨0, 0⟩ 2) with last := some ⟨2200, 300, 256⟩ }

theorem restingCache_inv : restingCache.Inv where
  ranks := by decide
  keys := by decide +kernel
  keyed := by decide +kernel
  oneFill := by decide +kernel
  port := by decide +kernel
  cells := by decide +kernel
  attempts := by decide +kernel
  pending := by decide +kernel
  gap := by decide +kernel
  keyRange := by decide +kernel
  pendingRange := by decide +kernel

/-- ENV during the image read. -/
def readingImage : Env := { Env.reset with port := .imageRead }

theorem readingImage_inv : readingImage.Inv where
  ranks := by decide
  keys := by decide +kernel
  keyed := by decide +kernel
  oneFill := by decide +kernel
  port := by decide +kernel
  cells := by decide +kernel
  attempts := by decide +kernel
  pending := by decide +kernel
  gap := by decide +kernel
  keyRange := by decide +kernel
  pendingRange := by decide +kernel

/-- A hit on each kind of entry, at the edges of the axes; the key of a fill marked for discard; a miss during a fill; and a miss
with the port IDLE. -/
theorem witness_LookupOutcomes :
    busyCache.Inv ∧ restingCache.Inv
      ∧ ((busyCache.entry 0).key = some (lookupKey (-60) 0) ∧ (busyCache.entry 0).state = .valid)
      ∧ ((busyCache.entry 1).key = some (lookupKey 90 10000) ∧ (busyCache.entry 1).state = .defective)
      ∧ ((busyCache.entry 7).key = some (lookupKey 90 999) ∧ (busyCache.entry 7).state = .filling
          ∧ (busyCache.entry 7).discard = false)
      ∧ (flushedCache.Inv ∧ (flushedCache.entry 7).key = some (lookupKey 90 999)
          ∧ (flushedCache.entry 7).state = .filling ∧ (flushedCache.entry 7).discard = true)
      ∧ ((∀ n < 8, (busyCache.entry n).key ≠ some (lookupKey 0 5000)) ∧ busyCache.port = .fill)
      ∧ ((∀ n < 8, (restingCache.entry n).key ≠ some (lookupKey 0 5000)) ∧ restingCache.port = .idle) :=
  ⟨busyCache_inv, restingCache_inv, by decide +kernel, by decide +kernel, by decide +kernel,
    ⟨flushedCache_inv, by decide +kernel⟩, by decide +kernel, by decide +kernel⟩

/-- Map data in which the four cells of tile (14, 0) hold zeros and their check words. -/
def goodTile : MapData :=
  (tileAddresses ⟨14, 0⟩).flatMap fun a =>
    [(a, 0), (a + 1, 0), (a + 2, 0), (a + 3, 0), (a + 4, 0), (a + 5, 0), (a + 6, 0xFF), (a + 7, 0xFF)]

/-- R71: the key of a fill marked for discard is looked up; the end of that fill starts one of the same key. -/
theorem test_lookup_after_flush :
    let looked := (envLookup Cal.defaults false 90 999 flushedCache).2.2
    let ended := (afterwards (exec (.fillSuccess goodTile) { inActive with env := looked })).env
    (looked.pendingKey, ended.pendingKey, ended.fillingEntry.map fun n => ((ended.entry n).key, (ended.entry n).discard))
      = (some ⟨14, 0⟩, none, some (some ⟨14, 0⟩, false)) := by decide +kernel

/-- `goodTile` with the last cell's check word wrong. -/
def badTile : MapData :=
  goodTile.map fun c => if c.1 = cellAddress 15 1 + 7 then (c.1, 0) else c

/-- R51, R72: MCS in the image read of a power-on and after a reset of the port, and both lines in a fill. -/
theorem test_map_port_lines :
    (State.reset.env.mcs, Env.reset.mcs, Env.reset.mck, busyCache.mcs, busyCache.mck) = (.low, .high, .low, .busy, .busy) := by decide

/-- Table 3-3, R68: with four lines a cell read takes 48 beats, and MCS is high for two beats between two reads, before the first
read of a further attempt, and after the last. -/
theorem test_map_select_by_beat :
    ((List.range 202).filter fun beat => (busyCache.portBeat 2 beat).mcs) = [0, 1, 50, 51, 100, 101, 150, 151, 200, 201] := by
  decide +kernel

/-- R52: the 32 bits that a read of cell (10, 5) sends: 0x03 and 0x001398. -/
theorem test_map_command :
    MapTransfer.sentBits ⟨cellAddress 10 5, 8⟩ = (List.range 32).map fun k => (0x03001398#32).getLsbD (31 - k) := by
  decide +kernel

/-- The third failure of a fill, its success, and the ends of a fill with and without a pending key. -/
theorem witness_FillEvents :
    (∃ (s : State) (n : Nat) (k : Key), n < 8 ∧ s.env.Inv ∧ s.env.port = .fill ∧ (s.env.entry n).state = .filling
      ∧ (s.env.entry n).key = some k ∧ (∀ a ∈ tileAddresses k, cellPasses goodTile a = true)
      ∧ (tileAddresses k)[3]? = some (cellAddress 15 1) ∧ cellPasses badTile (cellAddress 15 1) = false
      ∧ ∀ q < 3, ∀ b ∈ (tileAddresses k)[q]?, cellPasses badTile b = true)
      ∧ restingCache.pendingKey = none
      ∧ (busyCache.pendingKey = some ⟨0, 9⟩ ∧ busyCache.order.Perm (List.range 8) ∧ ∀ n < 8, (busyCache.entry n).key ≠ some ⟨0, 9⟩)
      ∧ (∃ e : Env, e.pendingKey = some ⟨14, 9⟩ ∧ ∃ n < 8, (e.entry n).key = some ⟨14, 9⟩)
      ∧ (∀ port : PortState, ∃ e : Env, e.Inv ∧ e.port = port)
      ∧ (∃ t, busyCache.transfers[3]? = some t ∧ t.sentBits[31]? = some false) :=
  ⟨⟨{ inActive with env := busyCache }, 7, ⟨14, 0⟩, by decide, busyCache_inv, rfl, by decide +kernel, by decide +kernel,
      by decide +kernel, rfl, by decide +kernel, by decide +kernel⟩,
    rfl, ⟨rfl, busyCache_inv.ranks, by decide +kernel⟩, ⟨{ busyCache with pendingKey := some ⟨14, 9⟩ }, rfl, 1, by decide, by decide +kernel⟩,
    fun port => match port with
      | .idle => ⟨restingCache, restingCache_inv, rfl⟩
      | .imageRead => ⟨readingImage, readingImage_inv, rfl⟩
      | .fill => ⟨busyCache, busyCache_inv, rfl⟩,
    ⟨_, rfl, by decide +kernel⟩⟩

theorem witness_MapFlushServed :
    (∃ s rest, Serves s ⟨0x50, []⟩ rest ∧ s.mdc.straps.mw ≠ 3)
      ∧ (∃ s rest, Serves s ⟨0x50, []⟩ rest ∧ s.mdc.straps.mw = 3) :=
  ⟨⟨_, _, active_serves _, by decide⟩,
    ⟨_, _, asking_serves _ { inActive with mdc := { inActive.mdc with straps := ⟨0, 3, false⟩ } } (by decide), rfl⟩⟩

/-! ### The route -/

/-- A plan of slots 10 to 12. -/
def planTo12 (endAction : EndAction) (laps : Nat) : Plan :=
  { first := 10, last := 12, start := 10, dir := .forward, endAction, wrap := 11, laps }

theorem planTo12_wf (e : EndAction) (n : Nat) : (planTo12 e n).Wf := by
  simp [Plan.Wf, planTo12]

/-- The cursor at an index, in a direction, with laps left. -/
def cursorAt (index : Nat) (dir : Dir) (laps : Nat) : State :=
  { inActive with rte := { inActive.rte with index, dir, laps } }

theorem witness_SegmentMoves :
    (∀ e n, (planTo12 e n).Wf)
      ∧ ((planTo12 .stop 0).first ≤ (cursorAt 11 .forward 0).rte.index
          ∧ (cursorAt 11 .forward 0).rte.index < (planTo12 .stop 0).last)
      ∧ ((planTo12 .stop 0).first < (cursorAt 11 .reverse 0).rte.index
          ∧ (cursorAt 11 .reverse 0).rte.index ≤ (planTo12 .stop 0).last)
      ∧ (cursorAt 12 .forward 0).rte.index = (planTo12 .turn 0).last
      ∧ (cursorAt 10 .reverse 0).rte.index = (planTo12 .wrap 0).first
      ∧ ((planTo12 .wrap 2).laps ≠ 0 ∧ (cursorAt 12 .forward 1).rte.laps = 1)
      ∧ ((planTo12 .wrap 2).laps ≠ 0 ∧ 1 < (cursorAt 12 .forward 2).rte.laps) :=
  ⟨planTo12_wf, by decide⟩

/-- A record for RTE. -/
def withDistance (s : State) : State := { s with mail := { s.mail with rteIn := [resultOf 5500 true] } }

theorem witness_RteResultTaken :
    (∃ (s : State) (x : ResultRecord) (rest : List ResultRecord), s.mail.rteIn = x :: rest ∧ s.rte.cursor ≠ .running)
      ∧ (∃ (s : State) (x : ResultRecord) (rest : List ResultRecord) (p : Plan), s.mail.rteIn = x :: rest ∧ s.rte.cursor = .running ∧ s.rte.plan = some p) :=
  ⟨⟨withDistance inActive, _, _, rfl, by decide⟩,
    ⟨withDistance (onSegment shortRun none inActive), _, _, _, rfl, rfl, rfl⟩⟩

/-- A request to load slot 63, one of two segments from there, one of no segments, one with a bad zone, and one for slot 0. -/
theorem witness_RouteLoadServed :
    (∃ s rest, Serves s ⟨0x40, [63, 1, 0, 0, 1, 0, 0, 0]⟩ rest ∧ segmentAt [63, 1, 0, 0, 1, 0, 0, 0] 2 ≠ none
      ∧ s.rte.cursor.inPlan = false)
      ∧ (∃ s rest, Serves s ⟨0x40, [63, 2, 0, 0, 1, 0, 0, 0, 0, 0, 1, 0, 0, 0]⟩ rest ∧ ¬(63 + 2 - 1 ≤ 63))
      ∧ (∃ s rest, Serves s ⟨0x40, [0, 0]⟩ rest ∧ [(0 : Byte), 0].length = 2 + 6 * byteAt [0, 0] 1)
      ∧ (∃ s rest, Serves s ⟨0x40, [0, 1, 3, 0, 1, 0, 0, 0]⟩ rest ∧ segmentAt [0, 1, 3, 0, 1, 0, 0, 0] 2 = none)
      ∧ (∃ s rest p, Serves s ⟨0x40, [0, 1, 0, 0, 1, 0, 0, 0]⟩ rest ∧ s.rte.cursor.inPlan = true ∧ s.rte.plan = some p
          ∧ p.first ≤ 0 ∧ 0 ≤ p.last) :=
  ⟨⟨_, _, active_serves _, by decide, rfl⟩, ⟨_, _, active_serves _, by decide⟩, ⟨_, _, active_serves _, by decide⟩,
    ⟨_, _, active_serves _, by decide⟩,
    ⟨_, _, _, asking_serves _ (onSegment shortRun none inActive) (by decide), rfl, rfl, by decide, by decide⟩⟩

/-- ROUTE_ARM during a plan, with a bad range, of an unloaded slot, and of the one loaded slot; and a wrap index out of range. -/
theorem witness_RouteArmServed :
    (∃ s rest, Serves s ⟨0x41, [0, 0, 0, 0, 0, 0, 0]⟩ rest ∧ s.rte.cursor = .running)
      ∧ (∃ s rest, Serves s ⟨0x41, [1, 0, 0, 0, 0, 0, 0]⟩ rest ∧ s.rte.cursor.inPlan = false
          ∧ planOf [1, 0, 0, 0, 0, 0, 0] = none)
      ∧ (∃ s rest q, Serves s ⟨0x41, [63, 63, 63, 0, 0, 0, 0]⟩ rest ∧ s.rte.cursor.inPlan = false
          ∧ planOf [63, 63, 63, 0, 0, 0, 0] = some q ∧ q.first = 63 ∧ s.rte.table[63]? = some none)
      ∧ (∃ s rest q, Serves s ⟨0x41, [0, 0, 0, 1, 2, 0, 255]⟩ rest ∧ s.rte.cursor.inPlan = false
          ∧ planOf [0, 0, 0, 1, 2, 0, 255] = some q ∧ q.first = 0 ∧ q.last = 0 ∧ s.rte.table[0]? = some (some shortRun))
      ∧ planOf [0, 1, 0, 0, 2, 2, 0] = none :=
  ⟨⟨_, _, asking_serves _ (onSegment shortRun none inActive) (by decide), rfl⟩,
    ⟨_, _, active_serves _, rfl, by decide⟩,
    ⟨_, _, { first := 63, last := 63, start := 63, dir := .forward, endAction := .stop, wrap := 63, laps := 0 },
      active_serves _, rfl, by decide, rfl, by decide +kernel⟩,
    ⟨_, _, { first := 0, last := 0, start := 0, dir := .reverse, endAction := .wrap, wrap := 0, laps := 255 },
      asking_serves _
        { inActive with rte := { inActive.rte with table := inActive.rte.table.set 0 (some shortRun) } } (by decide),
      rfl, by decide, rfl, rfl, by decide +kernel⟩,
    by decide⟩

theorem witness_RouteDepartAndClear :
    (∃ s rest, Serves s ⟨0x42, []⟩ rest ∧ s.rte.cursor ≠ .holding)
      ∧ (∃ s rest p, Serves s ⟨0x42, []⟩ rest ∧ s.rte.cursor = .holding ∧ s.rte.plan = some p)
      ∧ (∃ s rest, Serves s ⟨0x44, []⟩ rest) :=
  ⟨⟨_, _, active_serves _, by decide⟩,
    ⟨_, _, _, asking_serves _ (onSegment (stopIn .quiet) none inActive) (by decide), rfl, rfl⟩, ⟨_, _, active_serves _⟩⟩

/-- A RUNNING cursor in segment 10 of the plan 10 to 12, with this raw count; the segment is 500 m long. -/
def beforeSync (raw : Nat) : State :=
  { inActive with
    rte :=
      { inActive.rte with
        table := inActive.rte.table.set 10 (some { shortRun with len := 50 })
        plan := some (planTo12 .stop 0), cursor := .running, index := 10, raw } }

/-- A sync without a plan, beyond the plan, back to segment 10, and on to segment 11 with the raw counts of 05 section 5.12. -/
theorem witness_RouteSyncServed :
    (∃ s rest, Serves s ⟨0x43, [0, 0]⟩ rest ∧ s.rte.cursor.inPlan = false)
      ∧ (∃ s rest, Serves s ⟨0x43, [13, 1]⟩ rest ∧ s.rte.cursor.inPlan = true ∧ s.rte.plan = some (planTo12 .stop 0))
      ∧ (∃ s rest, Serves s ⟨0x43, [10, 1]⟩ rest ∧ s.rte.cursor = .running ∧ s.rte.plan = some (planTo12 .stop 0)
          ∧ nextIndex (planTo12 .stop 0) s.rte.dir s.rte.index ≠ some 10)
      ∧ (∀ raw, ∃ s rest, Serves s ⟨0x43, [11, 1]⟩ rest ∧ s.rte.cursor = .running
          ∧ s.rte.plan = some (planTo12 .stop 0) ∧ nextIndex (planTo12 .stop 0) s.rte.dir s.rte.index = some 11
          ∧ s.rte.raw = raw ∧ (s.rte.segment s.rte.index).len = 50)
      ∧ (3851 ≤ 50 * 10000 * 147456 / 17000000 ∧ 50 * 10000 * 147456 / 17000000 ≤ 4341)
      ∧ 4341 < 50 * 10000 * 147456 / 16000000 :=
  ⟨⟨_, _, active_serves _, rfl⟩, ⟨_, _, asking_serves _ (beforeSync 1) (by decide), rfl, rfl⟩,
    ⟨_, _, asking_serves _ (beforeSync 1) (by decide), rfl, rfl, by decide⟩,
    fun raw => ⟨_, _, asking_serves _ (beforeSync raw) rfl, rfl, rfl, rfl, rfl, rfl⟩,
    by decide, by decide⟩

/-- The defaults, in a CHARGE, a QUIET and an OPEN segment, with and without a QUIET segment ahead. -/
theorem witness_LookaheadSound :
    (Cal.defaults.socLo ≤ Cal.defaults.socHi ∧ 0 < Cal.defaults.packWh)
      ∧ (∃ r : Rte, (r.segment r.index).zone = .charge) ∧ (∃ r : Rte, (r.segment r.index).zone = .quiet)
      ∧ (∃ (r : Rte) (p : Plan), (r.segment r.index).zone = .open_
          ∧ ∀ x ∈ scan Cal.defaults r p, x.seg.zone ≠ .quiet)
      ∧ (∃ (r : Rte) (p : Plan), (r.segment r.index).zone = .open_
          ∧ ∃ x ∈ scan Cal.defaults r p, x.seg.zone = .quiet) :=
  ⟨by decide +kernel, ⟨(onSegment (stopIn .charge) none inActive).rte, rfl⟩,
    ⟨(onSegment (stopIn .quiet) none inActive).rte, rfl⟩,
    ⟨(onSegment shortRun none inActive).rte, planTo12 .stop 0, rfl, by decide +kernel⟩,
    ⟨worked511, { planTo12 .stop 0 with first := 20, last := 24 }, by decide +kernel, by decide +kernel⟩⟩

/-! ### The engine -/

/-- Eight starts in the last second: the default budget. -/
def budgetStarts : List StartEntry := (List.range 8).map fun k => ⟨BitVec.ofNat 32 (199000 + k), .normal⟩

/-- One record waits for an engine in this state. -/
def Waits (s : State) (x : ResultRecord) (st : EngState) : Prop := s.mail.engIn = [x] ∧ s.eng.state = st

theorem engineIn_waits (st : EngState) (x : ResultRecord) (s : State) : Waits (engineIn st x s) x st := ⟨rfl, rfl⟩

theorem budgetUsed_waits (st : EngState) (x : ResultRecord) (s : State) :
    Waits { engineIn st x s with eng := { (engineIn st x s).eng with starts := budgetStarts } } x st := ⟨rfl, rfl⟩

theorem quiet_zone : (onSegment (stopIn .quiet) none inActive).rte.zone = .quiet := by decide +kernel
theorem open_zone : inActive.rte.zone ≠ .quiet := by decide
theorem soc_1999 : 1999 < Cal.defaults.socHard := by decide +kernel
theorem soc_2000 : ¬2000 < Cal.defaults.socHard := by decide +kernel

theorem witness_EngineSteps : (engineIn .running (resultOf 5500 false) inActive).eng.runStart = some 100000 := rfl

/-- STOPPED and LOCKOUT; forced (SoC 1999 below soc_hard 2000); no want (SoC 5200 at the target less hyst_on); a want that
QUIET blocks; a want (SoC 5199) within the budget and beyond it. -/
theorem witness_StoppedResult :
    (∃ s x, Waits s x .lockout)
      ∧ (∃ s x, Waits s x .stopped ∧ x.soc < s.cal.socHard)
      ∧ (∃ s x, Waits s x .stopped ∧ startWant s x = false)
      ∧ (∃ s x, Waits s x .stopped ∧ ¬x.soc < s.cal.socHard ∧ s.rte.zone = .quiet)
      ∧ (∃ s x, Waits s x .stopped ∧ ¬x.soc < s.cal.socHard ∧ startWant s x = true
          ∧ quietBlock s = false ∧ ¬s.cal.startBudget ≤ (s.resultBegun x []).eng.starts.length)
      ∧ (∃ s x, Waits s x .stopped ∧ ¬x.soc < s.cal.socHard ∧ startWant s x = true
          ∧ quietBlock s = false ∧ s.cal.startBudget ≤ (s.resultBegun x []).eng.starts.length) :=
  ⟨⟨_, _, engineIn_waits .lockout (resultOf 0 false) inActive⟩,
    ⟨_, _, engineIn_waits .stopped (resultOf 1999 false) inActive, by decide +kernel⟩,
    ⟨_, _, engineIn_waits .stopped (resultOf 5200 false) inActive, by decide +kernel⟩,
    ⟨_, _, engineIn_waits .stopped (resultOf 2000 false) (onSegment (stopIn .quiet) none inActive), by decide +kernel,
      by decide +kernel⟩,
    ⟨_, _, engineIn_waits .stopped (resultOf 5199 false) inActive, by decide +kernel, by decide +kernel,
      by decide +kernel, by decide +kernel⟩,
    ⟨_, _, budgetUsed_waits .stopped (resultOf 5199 false) inActive, by decide +kernel, by decide +kernel,
      by decide +kernel, by decide +kernel⟩⟩

theorem witness_CrankingResult :
    (∀ e, ∃ s x, Waits s x .cranking ∧ x.eRun = e)
      ∧ (∃ s x, Waits s x .cranking ∧ x.eRun = false ∧ s.rte.zone = .quiet)
      ∧ (∀ e, ∃ s x, Waits s x .pause ∧ x.eRun = e) :=
  ⟨fun e => ⟨_, _, engineIn_waits .cranking (resultOf 1999 e) inActive, rfl⟩,
    ⟨_, _, engineIn_waits .cranking (resultOf 1999 false) (onSegment (stopIn .quiet) none inActive), rfl, by decide +kernel⟩,
    fun e => ⟨_, _, engineIn_waits .pause (resultOf 1999 e) inActive, rfl⟩⟩

/-- In WARMUP, RUNNING and COOLDOWN alike: the engine off; QUIET, forced and not; outside QUIET, forced and not. -/
theorem witness_RunningResult :
    (∀ st ∈ [EngState.warmup, .running, .cooldown],
        (∃ s x, Waits s x st ∧ x.eRun = false)
          ∧ (∃ s x, Waits s x st ∧ x.eRun = true ∧ s.rte.zone = .quiet
              ∧ x.soc < s.cal.socHard)
          ∧ (∃ s x, Waits s x st ∧ x.eRun = true ∧ s.rte.zone = .quiet
              ∧ ¬x.soc < s.cal.socHard)
          ∧ (∃ s x, Waits s x st ∧ x.eRun = true ∧ s.rte.zone ≠ .quiet
              ∧ x.soc < s.cal.socHard))
      ∧ (∃ s x, Waits s x .running ∧ x.eRun = true ∧ s.rte.zone ≠ .quiet
          ∧ prestop s = true ∧ ¬x.soc < s.cal.socHard)
      ∧ (∃ s x, Waits s x .running ∧ x.eRun = true ∧ s.rte.zone ≠ .quiet
          ∧ prestop s = false ∧ stopEligible x (s.resultBegun x []) = true)
      ∧ (∃ s x, Waits s x .running ∧ x.eRun = true ∧ s.rte.zone ≠ .quiet
          ∧ prestop s = false ∧ stopEligible x (s.resultBegun x []) = false)
      ∧ (∃ s x, Waits s x .cooldown ∧ x.eRun = true ∧ s.rte.zone ≠ .quiet
          ∧ startWant s x = true ∧ quietBlock s = false ∧ prestop s = false)
      ∧ (∃ s x, Waits s x .cooldown ∧ x.eRun = true ∧ s.rte.zone ≠ .quiet
          ∧ startWant s x = false) :=
  ⟨fun st _ =>
      ⟨⟨_, _, engineIn_waits st (resultOf 5500 false) inActive, rfl⟩,
        ⟨_, _, engineIn_waits st (resultOf 1999 true) (onSegment (stopIn .quiet) none inActive), rfl, quiet_zone, soc_1999⟩,
        ⟨_, _, engineIn_waits st (resultOf 2000 true) (onSegment (stopIn .quiet) none inActive), rfl, quiet_zone, soc_2000⟩,
        ⟨_, _, engineIn_waits st (resultOf 1999 true) inActive, rfl, open_zone, soc_1999⟩⟩,
    ⟨_, _, engineIn_waits .running (resultOf 2000 true) (onSegment (stopIn .open_) (some 299999) inActive), rfl,
      by decide +kernel, by decide +kernel, by decide +kernel⟩,
    ⟨_, _, engineIn_waits .running (resultOf 5801 true) inActive, rfl, by decide +kernel, by decide +kernel,
      by decide +kernel⟩,
    ⟨_, _, engineIn_waits .running (resultOf 5800 true) inActive, rfl, by decide +kernel, by decide +kernel,
      by decide +kernel⟩,
    ⟨_, _, engineIn_waits .cooldown (resultOf 5199 true) inActive, rfl, by decide +kernel, by decide +kernel,
      by decide +kernel, by decide +kernel⟩,
    ⟨_, _, engineIn_waits .cooldown (resultOf 5200 true) inActive, rfl, by decide +kernel, by decide +kernel⟩⟩

theorem witness_EngineTimersExpire :
    (∀ st ∈ [EngState.cranking, .pause, .warmup, .cooldown], ∃ (s : State) (e : PartTime),
        elapsed s.mdc.partTime e = 0 ∧ s.eng.state = st ∧ s.eng.stateTimer = some e)
      ∧ (∃ (s : State) (e : PartTime),
        elapsed s.mdc.partTime e = 2147483647 ∧ s.eng.state = .running ∧ s.eng.stopHold = some e) :=
  ⟨fun st _ => ⟨{ inActive with eng := { inActive.eng with state := st, stateTimer := some 1000 } }, 1000,
      (by decide : elapsed inActive.mdc.partTime 1000 = 0), rfl, rfl⟩,
    ⟨{ inActive with
        eng := { inActive.eng with state := .running, stopHold := some (1000 - 2147483647) } }, _, by decide, rfl, rfl⟩⟩

theorem witness_FaultClearServed :
    (∃ s rest, Serves s ⟨0x23, [0]⟩ rest)
      ∧ (∃ s rest, Serves s ⟨0x23, [1]⟩ rest ∧ s.eng.state ≠ .lockout)
      ∧ (∃ s rest, Serves s ⟨0x23, [1]⟩ rest ∧ s.eng.state = .lockout) :=
  ⟨⟨_, _, active_serves _⟩, ⟨_, _, active_serves _, by decide⟩,
    ⟨_, _, asking_serves _ (engineIn .lockout (resultOf 0 false) inActive) (by decide), rfl⟩⟩

theorem engine_reset_inv : Eng.reset.Inv where
  size := by decide
  order := trivial
  stateTimer := by decide
  stopHold := by decide
  runStart := by decide
  attempts := by decide
  breach := fun _ => rfl

/-- A forced start from STOPPED; and an increment of STARTS. -/
theorem witness_StartAccounting :
    (∃ (c : Instr) (s t : State), s.eng.Inv ∧ exec c s = .next t ∧ s.eng.state ≠ .cranking ∧ t.eng.state = .cranking)
      ∧ (∃ (s : State) (n : Nat) (rest : List (Nat × Nat)), s.mail.incIn = (4, n) :: rest) :=
  ⟨⟨.engResultEvaluation, { inActive with mail := { inActive.mail with engIn := [resultOf 1999 false] } }, _,
      engine_reset_inv, rfl, by decide, by decide +kernel⟩,
    ⟨{ inActive with mail := { inActive.mail with incIn := [(4, 3)] } }, _, _, rfl⟩⟩

/-! ### Wear -/

/-- SEEDED, with BRK1 one unit below the largest value and a full residue, and RESIST saturated. -/
def worn : State :=
  { seeded inActive with
    wru :=
      ((seeded inActive).wru.setCounter 0 ⟨4294967294, 9999, false, .none⟩).setCounter 7 ⟨4294967295, 0, true, .none⟩ }

theorem witness_WruResultTaken :
    ∃ (s : State) (x : ResultRecord) (rest : List ResultRecord), s.mail.wruIn = x :: rest
      ∧ (∀ c < 8, (s.wru.counter c).residue < residueUnit c) ∧ (∀ c < 8, (s.wru.counter c).value ≤ 4294967295)
      ∧ (∀ c < 4, (s.wru.counter c).saturated = false ∧ s.wru.kmTally c ≤ 65535) :=
  ⟨{ worn with mail := { worn.mail with wruIn := [resultOf 5500 true] } }, _, _, rfl, by decide +kernel, by decide +kernel,
    by decide +kernel⟩

/-- A saturated counter with a tally. -/
theorem witness_WruResultTaken_saturated :
    ∃ (s : State) (c : Nat), c < 4 ∧ (s.wru.counter c).saturated = true :=
  ⟨{ worn with wru := worn.wru.setCounter 3 ⟨4294967295, 0, true, .none⟩ }, 3, by decide, by decide +kernel⟩

theorem witness_EngineIncrementTaken :
    ∀ c, c = 4 ∨ c = 6 → ∃ (s : State) (n : Nat) (rest : List (Nat × Nat)), s.mail.incIn = (c, n) :: rest
      ∧ (s.wru.counter 4).value ≤ 4294967295 ∧ (s.wru.counter 6).value ≤ 4294967295 :=
  fun c _ =>
    ⟨{ worn with mail := { worn.mail with incIn := [(c, 3)] } }, _, _, rfl, Nat.zero_le _, Nat.zero_le _⟩

/-- A distance that leaves the km accumulator 1 mm short, one that fills it, and a flashing lamp at its expiry. -/
theorem witness_KmAndLampEvents :
    (∃ (s : State) (d : Nat) (rest : List Nat), s.mail.kmIn = d :: rest ∧ s.wru.kmAcc + d = 999999)
      ∧ (∃ (s : State) (d : Nat) (rest : List Nat), s.mail.kmIn = d :: rest ∧ s.wru.kmAcc + d = 1000000)
      ∧ (∃ (s : State) (e : PartTime), s.wru.pattern = .flash ∧ s.wru.lampTimer = some e
          ∧ elapsed s.mdc.partTime e = 2147483647) :=
  ⟨⟨{ inActive with wru := { inActive.wru with kmAcc := 999000 }, mail := { inActive.mail with kmIn := [999] } }, _, _,
      rfl, rfl⟩,
    ⟨{ inActive with wru := { inActive.wru with kmAcc := 999000 }, mail := { inActive.mail with kmIn := [1000] } }, _, _,
      rfl, rfl⟩,
    ⟨{ inActive with wru := { inActive.wru with pattern := .flash, lampTimer := some (1000 - 2147483647) } }, _, rfl, rfl,
      by decide⟩⟩

theorem witness_WearRequestsServed :
    (∃ s rest, Serves s ⟨0x60, List.replicate 32 0xFF⟩ rest ∧ s.mail.loadEndWru = false ∧ s.wru.seeded = true)
      ∧ (∃ s rest, Serves s ⟨0x60, List.replicate 32 0xFF⟩ rest ∧ s.mail.loadEndWru = false ∧ s.wru.seeded = false)
      ∧ (∃ s rest, Serves s ⟨0x61, [8]⟩ rest ∧ s.mail.loadEndWru = false)
      ∧ (∃ s rest, Serves s ⟨0x61, [7]⟩ rest ∧ s.mail.loadEndWru = false ∧ s.wru.seeded = false)
      ∧ (∃ s rest, Serves s ⟨0x61, [7]⟩ rest ∧ s.mail.loadEndWru = false ∧ s.wru.seeded = true
          ∧ s.wru.pattern = lampPatternFor s.wru) :=
  ⟨⟨_, _, asking_serves _ (seeded inActive) (by decide), rfl, rfl⟩, ⟨_, _, active_serves _, rfl, rfl⟩,
    ⟨_, _, active_serves _, rfl⟩, ⟨_, _, active_serves _, rfl, rfl⟩,
    ⟨_, _, asking_serves _ (seeded inActive) (by decide), rfl, rfl, by decide +kernel⟩⟩

/-- SEEDED in ACTIVE, with the defaults (no thresholds), meets the wear invariant with any values in range. -/
def driven : State :=
  { worn with
    wru := { worn.wru with ring := worn.wru.ring.set 0 (List.replicate 16 65535), tally := worn.wru.tally.set 0 65535 } }

theorem driven_inv : WearInv driven where
  residues := by decide +kernel
  values := by decide +kernel
  saturated := by decide +kernel
  unseeded := by decide +kernel
  graded := fun _ _ => by decide +kernel
  rings := by decide +kernel
  pattern := by decide +kernel
  lamp := by decide +kernel
  timer := by decide +kernel

/-- A power-on takes the values back to 0. -/
theorem witness_WearValuesRise :
    ∃ (i : Instr) (s t : State) (c : Nat), WearInv s ∧ exec i s = .next t ∧ c < 8
      ∧ (t.wru.counter c).value < (s.wru.counter c).value :=
  ⟨.powerOn ⟨0, 3, false⟩, driven, _, 0, driven_inv, rfl, by decide, by decide +kernel⟩

/-- The four cases of R148: UNSEEDED; at the threshold; three entries; and four entries at a rate of 1. -/
theorem witness_PredictionSound :
    Wru.reset.seeded = false
      ∧ (let cal := Cal.defaults.set 97 1
         let w := { Wru.reset with counters := Wru.reset.counters.set 0 ⟨1, 0, false, .service⟩, seeded := true }
         w.seeded = true ∧ cal.threshold 0 1 ≠ 0 ∧ cal.threshold 0 1 ≤ (w.counter 0).value)
      ∧ (let cal := Cal.defaults.set 97 1
         let w := { Wru.reset with ring := Wru.reset.ring.set 0 [1, 1, 1], seeded := true }
         w.seeded = true ∧ (w.counter 0).value < cal.threshold 0 1 ∧ (w.kmRing 0).length < 4)
      ∧ (let cal := Cal.defaults.set 97 1
         let w := { Wru.reset with ring := Wru.reset.ring.set 0 [1, 1, 1, 1], seeded := true }
         w.seeded = true ∧ (w.counter 0).value < cal.threshold 0 1 ∧ 4 ≤ (w.kmRing 0).length
           ∧ (w.kmRing 0).sum / (w.kmRing 0).length ≠ 0) := by
  decide +kernel

/-! ### The link -/

/-- The link with a frame being assembled. -/
def assembling (bytes : List Byte) : State :=
  { inActive with lnk := { inActive.lnk with receiver := .assembling bytes, gapTimer := some 0 } }

theorem witness_FrameRoundTrip :
    (List.replicate 56 (0 : Byte)).length ≤ 56 ∧ inActive.lnk.state = .ready ∧ inActive.lnk.receiver = .hunt
      ∧ inActive.lnk.intake.length < 4
      ∧ ({ inActive.lnk with intake := List.replicate 4 ⟨0x20, []⟩ } : Lnk).intake.length = 4 := by
  decide

/-- The START frame, with a right and a wrong last byte. -/
theorem witness_CharacterTaken :
    (∃ (s : State), s.lnk.state = .ready ∧ s.lnk.receiver = .hunt)
      ∧ (∃ (s : State) (bytes : List Byte) (b : Byte), s.lnk.state = .ready ∧ s.lnk.receiver = .assembling bytes
          ∧ bytes.length = 2 ∧ b.toNat = 57)
      ∧ (∃ (s : State) (bytes : List Byte) (b : Byte), s.lnk.state = .ready ∧ s.lnk.receiver = .assembling bytes
          ∧ bytes.length = 2 ∧ b.toNat = 56 ∧ frameComplete (bytes ++ [b]) = false)
      ∧ (∃ (s : State) (bytes : List Byte) (b : Byte), s.lnk.state = .ready ∧ s.lnk.receiver = .assembling bytes
          ∧ bytes.length ≠ 2 ∧ frameComplete (bytes ++ [b]) = true ∧ frameValid (bytes ++ [b]) = true
          ∧ s.lnk.intake.length < 4)
      ∧ (∃ (s : State) (bytes : List Byte) (b : Byte), s.lnk.state = .ready ∧ s.lnk.receiver = .assembling bytes
          ∧ bytes.length ≠ 2 ∧ frameComplete (bytes ++ [b]) = true ∧ frameValid (bytes ++ [b]) = false) :=
  ⟨⟨inActive, rfl, rfl⟩, ⟨assembling [0xB5, 0x20], _, 57, rfl, rfl, rfl, rfl⟩,
    ⟨assembling [0xB5, 0x20], _, 56, rfl, rfl, rfl, rfl, rfl⟩,
    ⟨assembling ((frameBytes 0x20 []).take 4), _, (frameBytes 0x20 []).getD 4 0, rfl, rfl, by decide +kernel,
      by decide +kernel, by decide +kernel, by decide⟩,
    ⟨assembling ((frameBytes 0x20 []).take 4), _, (frameBytes 0x20 []).getD 4 0 + 1, rfl, rfl, by decide +kernel,
      by decide +kernel, by decide +kernel⟩⟩

/-- A low period of exactly 20 bit times at divisor 9, and one cycle more, with RATE fixed and AUTO. -/
theorem witness_ReceiverFaults :
    ((assembling [0xB5]).lnk.gapTimer = some 0 ∧ (assembling [0xB5]).lnk.receiver = .assembling [0xB5]
        ∧ (assembling [0xB5]).lnk.state = .ready ∧ (assembling [0xB5]).lnk.divisor = 9)
      ∧ 3200 ≤ 20 * bitTime 9 ∧ 20 * bitTime 9 < 3201
      ∧ (assembling [0xB5]).mdc.straps.rate ≠ 3
      ∧ (∃ s : State, s.lnk.state = .ready ∧ s.mdc.straps.rate = 3) :=
  ⟨⟨rfl, rfl, rfl, rfl⟩, by decide, by decide, by decide,
    ⟨{ inActive with mdc := { inActive.mdc with straps := ⟨3, 0, false⟩ } }, rfl, rfl⟩⟩

/-- Every phase of a detection, and measurements at the bounds 64 and 32831. -/
theorem witness_RateDetected :
    ∀ (phase : DetPhase) (counting overflow : Bool), ∃ s : State, s.lnk.state = .rateUnknown ∧ s.lnk.phase = phase
      ∧ s.lnk.counting = counting ∧ s.lnk.overflow = overflow :=
  fun phase counting overflow =>
    ⟨{ inActive with lnk := { inActive.lnk with state := .rateUnknown, phase, counting, overflow } }, rfl, rfl, rfl, rfl⟩

/-- R163, 08 section 8.3: sent least significant bit first, 0x55 alternates at every bit; 0xB5 has its ten bits. -/
theorem test_character_bits :
    characterBits 0x55 = [false, true, false, true, false, true, false, true, false, true]
      ∧ characterBits 0xB5 = [false, true, false, true, false, true, true, false, true, true] := by decide

/-- A line at 115200 bd that carries 0xB5, with the stop bit low, and that has risen before the middle of the start bit. -/
theorem test_reception :
    let line := fun cycle => (characterBits 0xB5).getD (cycle / 160) true
    (receiveCharacter 9 line, receiveCharacter 9 fun cycle => line cycle && decide (cycle < 1440),
        receiveCharacter 9 fun cycle => decide (60 ≤ cycle))
      = (.character 0xB5, .framingFault, .falseStart) := by decide +kernel

/-- R171: a frame at 115200 bd that a break has overtaken is sent to its end at that rate, with the link READY again at 230400 bd. -/
theorem test_frame_keeps_its_divisor :
    let l : Lnk :=
      { inActive.lnk with
        state := .rateUnknown, phase := .measure, counting := true, txDivisor := 9
        transmitting := some { staged false with bytes := [0xB5] } }
    let after := (afterwards (exec (.measurementEnd 640) { inActive with lnk := l })).lnk
    (after.state, after.divisor, [200, 400].map after.ltxLevel) = (.ready, 4, [true, false]) := by decide +kernel

theorem test_measurement_bounds :
    ([63, 64, 32831, 32832].map (measureAccepted false), [64, 32831].map measuredDivisor)
      = ([false, true, true, false], [0, 255]) := by decide

/-- An answer to stage, and a NOTICE, with and without a frame being transmitted. -/
theorem witness_FramesStaged :
    (∀ tx : Option Staged, ∃ (s : State) (a : Answer) (rest : List Answer), s.lnk.replies = a :: rest
        ∧ s.lnk.state = .ready ∧ s.lnk.restartHold = false ∧ s.lnk.waiting = none ∧ s.lnk.transmitting = tx)
      ∧ (∀ tx : Option Staged, ∃ s : State, s.lnk.replies = [] ∧ s.lnk.state = .ready ∧ s.lnk.restartHold = false
          ∧ s.lnk.waiting = none ∧ s.ntu.due = true ∧ s.ntu.queue ≠ [] ∧ s.lnk.transmitting = tx) :=
  ⟨fun tx =>
      ⟨{ inActive with lnk := { inActive.lnk with replies := [.reply 0x22 .done .active 0], transmitting := tx } }, _, _,
        rfl, rfl, rfl, rfl, rfl⟩,
    fun tx =>
      ⟨{ inActive with
          lnk := { inActive.lnk with transmitting := tx }
          ntu := { inActive.ntu with queue := [⟨.stateChange, 1, 0, 0⟩], due := true } }, rfl, rfl, rfl, rfl, rfl,
        by simp, rfl⟩⟩

/-! ### Notices, queries, answers -/

/-- A record behind one of another block; and the coalescing timer at its expiry time. -/
theorem witness_NoticeEvents :
    (∃ (s : State) (src : Block) (e : EventRec) (pre post : List (Block × EventRec)),
        s.mail.raised = pre ++ (src, e) :: post ∧ (∀ r ∈ pre, r.1 ≠ src) ∧ pre ≠ [] ∧ post ≠ [])
      ∧ (∃ (s : State) (e : PartTime), s.ntu.timer = some e ∧ elapsed s.mdc.partTime e = 0) := by
  refine ⟨⟨(inActive.raising .mdc [(.stateChange, 2, 1)]).raising .eng [(.engineStart, 0, 1), (.quietBreach, 0, 5500)],
      .eng, _, [(.mdc, ⟨.stateChange, 2, 1, 1000⟩)], [(.eng, ⟨.quietBreach, 0, 5500, 1000⟩)], rfl, ?_, by simp, by simp⟩,
    ⟨{ inActive with ntu := { inActive.ntu with timer := some 1000 } }, 1000, rfl, by decide⟩⟩
  intro r hr
  simp only [List.mem_singleton] at hr
  subst hr
  decide

/-- The end of LOADING and a record at each place wait. -/
def waiting : State :=
  { inActive with
    mail :=
      { inActive.mail with
        heatIn := [resultOf 5500 true], rteIn := [resultOf 5500 true], engIn := [resultOf 5500 true]
        wruIn := [resultOf 5500 true], loadEndDsp := true, loadEndWru := true } }

theorem witness_QueriesAnswered :
    ∀ b : Byte, ∃ s rest, Serves s ⟨0x70, [b]⟩ rest ∧ s.mail.loadEndDsp = false ∧ s.mail.loadEndWru = false :=
  fun _ => ⟨_, _, active_serves _, rfl, rfl⟩

/-- An unknown type; a wrong length of a request and of each kind of QUERY, with a record waiting at the heat model and at ENG;
each ground on which no frame is taken; and each on which a request of right length waits. -/
theorem witness_MdcAnswers :
    (∃ s rest, Serves s ⟨0xFF, []⟩ rest ∧ knownType 0xFF = false)
      ∧ (∀ p ∈ [[], [0, 0], [8, 0]], ∃ s rest, Serves s ⟨0x70, p⟩ rest ∧ lengthOk ⟨0x70, p⟩ = false
          ∧ s.mail.heatIn ≠ [] ∧ s.mail.engIn ≠ [])
      ∧ (∃ s rest, Serves s ⟨0x10, [0]⟩ rest ∧ lengthOk ⟨0x10, [0]⟩ = false ∧ s.mail.heatIn ≠ [])
      ∧ (State.reset.mdc.op = .loading ∧ (∃ s : State, s.mdc.restartPending = true)
          ∧ (∃ s : State, 4 ≤ s.lnk.replies.length) ∧ inActive.lnk.intake = [])
      ∧ (∃ s rest, Serves s ⟨0x21, []⟩ rest ∧ lengthOk ⟨0x21, []⟩ = true ∧ s.mdc.op = .active ∧ s.mail.engIn ≠ []
          ∧ s.mail.rteIn ≠ [])
      ∧ (∀ id ∈ [(26 : Byte), 27, 28, 96, 119], ∃ s rest, Serves s ⟨0x30, [id, 0, 0, 0, 1]⟩ rest
          ∧ lengthOk ⟨0x30, [id, 0, 0, 0, 1]⟩ = true ∧ s.mdc.op = .config ∧ s.mail.heatIn ≠ []
          ∧ s.mail.wruIn ≠ [] ∧ s.mail.loadEndDsp = true ∧ s.mail.loadEndWru = true)
      ∧ (∃ s rest, Serves s ⟨0x20, []⟩ rest ∧ lengthOk ⟨0x20, []⟩ = true ∧ s.mdc.op = .config
          ∧ s.cal.firstFailure = none ∧ s.mail.loadEndWru = true) :=
  ⟨⟨_, _, active_serves _, by decide⟩,
    fun p hp => ⟨_, _, asking_serves _ waiting (by decide), by revert p; decide, List.cons_ne_nil _ _,
      List.cons_ne_nil _ _⟩,
    ⟨_, _, asking_serves _ waiting (by decide), by decide, by decide⟩,
    ⟨rfl, ⟨{ inActive with mdc := { inActive.mdc with restartPending := true } }, rfl⟩,
      ⟨{ inActive with lnk := { inActive.lnk with replies := List.replicate 4 (.reply 0x20 .done .active 0) } }, by decide⟩,
      rfl⟩,
    ⟨_, _, asking_serves _ waiting (by decide), by decide, rfl, by decide, by decide⟩,
    fun id _ =>
      ⟨_, _, asking_serves _ { waiting with mdc := { waiting.mdc with op := .config } } (by decide), rfl, rfl,
        List.cons_ne_nil _ _, List.cons_ne_nil _ _, rfl, rfl⟩,
    ⟨_, _, asking_serves _ { waiting with mdc := { waiting.mdc with op := .config } } (by decide), by decide, rfl,
      test_defaults_pass_start, rfl⟩⟩

/-- R104, 05 section 5.1: a HALT waits for RTE, so that no record published before it moves the cursor in CONFIG. -/
theorem test_halt_waits_for_route :
    (afterwards (exec .halt (asking ⟨0x21, []⟩ (withDistance inActive)))).mdc.op = .active
      ∧ (afterwards (exec .halt (asking ⟨0x21, []⟩ (afterwards (exec .rteResult (withDistance inActive)))))).mdc.op
        = .config := by
  decide +kernel

/-- R159: a write of axle_count waits for WRU, so that a record is accounted for with the axles it was dispatched with. -/
theorem test_axle_count_waits :
    let s : State := { waiting with mdc := { waiting.mdc with op := .config } }
    let write := asking ⟨0x30, [28, 0, 0, 0, 3]⟩
    let taken := afterwards (exec .wruResult s)
    ((afterwards (exec .calWrite (write s))).cal.axleCount, (afterwards (exec .calWrite (write taken))).cal.axleCount) = (2, 3) := by
  decide +kernel

/-- R173: a DEMAND of wrong length is answered at once, whatever waits at the heat model. -/
theorem test_bad_length_does_not_wait :
    (afterwards (exec .demand (asking ⟨0x10, [0]⟩ waiting))).lnk.replies = [.reply 0x10 .badLength .active 1] := by
  decide +kernel

/-! ### Invariants, away from the reset state -/

theorem witness_ControlKept : ∃ s t : State, ControlInv s ∧ step s = .next t :=
  ⟨motoringCase, _, control_cases.1, rfl⟩

theorem witness_CacheKept : ∃ s t : State, s.env.Inv ∧ step s = .next t :=
  ⟨{ inActive with env := busyCache, pending := [.fillSuccess goodTile] }, _, busyCache_inv, rfl⟩

/-- A RUNNING cursor 1 mm before the end of a plan of one segment, with a record and a distance on their way. -/
def drivenRoute : State :=
  withDistance
    { onSegment shortRun (some 0) inActive with
      rte := { (onSegment shortRun (some 0) inActive).rte with remaining := 1, carry := 147455, trim := 4341 }
      mail := { inActive.mail with kmIn := [3533] }
      wru := { inActive.wru with kmAcc := 999999 } }

theorem drivenRoute_inv : RouteInv drivenRoute where
  carry := by decide
  trim := by decide
  table := by
    have h : ∀ k < 64, ((drivenRoute.rte.table[k]?).getD none) = if k = 0 then some shortRun else none := by decide +kernel
    intro k hk g hg
    rw [h k hk] at hg
    split at hg <;> simp at hg
    subst hg
    simp [Segment.Wf, shortRun]
  plan := by
    intro p hp
    simp [drivenRoute, withDistance, onSegment] at hp
    subst hp
    simp [Plan.Wf]
  planned := by decide
  loaded := by
    intro _ p hp k _ h1 h2
    simp [drivenRoute, withDistance, onSegment] at hp
    subst hp
    obtain rfl : k = 0 := by simpa using h2
    exact ⟨shortRun, by decide +kernel⟩
  inRange := by
    intro _ p hp
    simp [drivenRoute, withDistance, onSegment] at hp
    subst hp
    decide
  running := fun _ => by decide +kernel
  holding := by intro h; exact absurd h (by decide)
  look := by decide
  records := by decide +kernel
  distances := by decide +kernel
  km := by decide

theorem witness_RouteKept : ∃ s t : State, RouteInv s ∧ step s = .next t := ⟨drivenRoute, _, drivenRoute_inv, rfl⟩

theorem witness_WearKept :
    ∃ s t : State, WearInv s ∧ step s = .next t ∧ t.wru.seeded = true ∧ t.mail.loadEndWru = false :=
  ⟨driven, _, driven_inv, rfl, rfl, rfl⟩

/-- A RUNNING engine with a full start list, two failures behind it and the stop-hold timer running. -/
def drivenEngine : Eng :=
  { Eng.reset with
    state := .running, attempts := 2, runStart := some 100000, stopHold := some 210000
    starts := (List.range 12).map fun k => ⟨BitVec.ofNat 32 (1000 + k), .normal⟩ }

theorem drivenEngine_inv : drivenEngine.Inv where
  size := by decide
  order := by simp only [drivenEngine, List.range, List.range.loop, List.map, startsRise]; decide +kernel
  stateTimer := by decide
  stopHold := fun _ => rfl
  runStart := by decide
  attempts := by decide
  breach := by decide

theorem witness_EngineKept : ∃ s t : State, s.eng.Inv ∧ step s = .next t :=
  ⟨{ engineIn .running (resultOf 5500 false) inActive with eng := drivenEngine, pending := [.engResultEvaluation] }, _,
    drivenEngine_inv, rfl⟩

/-- A full event queue with LOST set. -/
def fullQueue : Ntu := { queue := List.replicate 16 ⟨.stateChange, 2, 1, 0⟩, lost := true, timer := none, due := true }

theorem fullQueue_inv : fullQueue.Inv where
  size := by decide
  six := fun _ => rfl
  due := by decide
  timer := by decide
  lost := fun _ => rfl

theorem witness_NoticesKept : ∃ s t : State, s.ntu.Inv ∧ step s = .next t :=
  ⟨{ inActive with ntu := fullQueue, pending := [.stageNotice] }, _, fullQueue_inv, rfl⟩

/-- Full queues, a frame being assembled and both staged frames. -/
def busyLink : Lnk :=
  { inActive.lnk with
    divisor := 255, receiver := .assembling [0xB5, 0x20, 56], gapTimer := some 92160
    intake := List.replicate 4 ⟨0x60, List.replicate 56 0⟩
    replies := List.replicate 4 (.reply 0x20 .done .active 0)
    transmitting := some (staged false), waiting := some (staged false), dropped := true }

theorem busyLink_inv : busyLink.Inv where
  intake := by decide
  replies := by decide
  payloads := by decide +kernel
  divisor := by decide
  unknown := by intro h; exact absurd h (by decide)
  gap := by decide
  frame := by
    intro b hb
    obtain rfl : [0xB5, 0x20, 56] = b := by simpa [busyLink] using hb
    decide
  staging := by decide

theorem witness_LinkKept : ∃ s t : State, s.lnk.Inv ∧ step s = .next t :=
  ⟨{ inActive with lnk := busyLink, pending := [.characterReceived 0] }, _, busyLink_inv, rfl⟩

end Sys2Proof.Tests
end

section
/-!
PROOFS. The dispatch: traction, charge balance, the generator set-point and the torque permit (R28 to R31).
-/
namespace Sys2Proof.Machine

/-! ## Ranges of the calibration set (R154, R159) -/

/-- A parameter of a set in range does not exceed the upper end of its row in Table 7-4. -/
theorem Cal.InRange.nat_le {c : Cal} (hc : c.InRange) {id : Nat} {lo hi d : Int} (hid : id < 128)
    (hrow : calRow id = some (lo, hi, d)) (hlo : 0 ≤ lo) (hlohi : lo ≤ hi) : (c.nat id : Int) ≤ hi := by
  have hclamp := hc id hid (by simp [calKnown, hrow])
  simp only [calClamp, hrow] at hclamp
  have hbounds := clampInt_bounds lo hi (c.get id) hlohi
  rw [hclamp] at hbounds
  unfold Cal.nat
  omega

theorem Cal.InRange.motPmax_le {c : Cal} (hc : c.InRange) : c.motPmax ≤ 32767 := by
  exact_mod_cast hc.nat_le (id := 2) (by decide) rfl (by decide) (by decide)

theorem Cal.InRange.regenPmax_le {c : Cal} (hc : c.InRange) : c.regenPmax ≤ 32767 := by
  exact_mod_cast hc.nat_le (id := 4) (by decide) rfl (by decide) (by decide)

theorem Cal.InRange.bias1_le {c : Cal} (hc : c.InRange) : c.bias1 ≤ 100 := by
  exact_mod_cast hc.nat_le (id := 29) (by decide) rfl (by decide) (by decide)

theorem Cal.InRange.bias2_le {c : Cal} (hc : c.InRange) : c.bias2 ≤ 100 := by
  exact_mod_cast hc.nat_le (id := 30) (by decide) rfl (by decide) (by decide)

/-! ## Traction request and envelopes (R15, R16, R33, R35) -/

/-- A share of a quantity, in parts of `d`, does not exceed it. -/
theorem mul_div_le_of_le {a d : Nat} (h : a ≤ d) (q : Nat) : a * q / d ≤ q :=
  Nat.div_le_of_le_mul (Nat.mul_le_mul_right q h)

theorem motorEnvelope_le (c : Cal) (v : Nat) : motorEnvelope c v ≤ c.motPmax := Nat.min_le_left _ _

theorem regenEnvelope_le (c : Cal) (v : Nat) : regenEnvelope c v ≤ c.regenPmax := by
  unfold regenEnvelope
  split
  · exact Nat.min_le_left _ _
  · exact Nat.zero_le _

theorem tractionRequest_le_motorEnvelope (c : Cal) (mode : Mode) {a : Nat} (ha : a ≤ 1000) (v : Nat) :
    tractionRequest c mode a v ≤ motorEnvelope c v := by
  have hshare := mul_div_le_of_le ha (motorEnvelope c v)
  cases mode <;> simp only [tractionRequest]
  case motoring => exact_mod_cast hshare
  case coasting => split <;> omega
  all_goals omega

theorem neg_regenEnvelope_le_tractionRequest (c : Cal) (mode : Mode) (a v : Nat) :
    -(regenEnvelope c v : Int) ≤ tractionRequest c mode a v := by
  cases mode <;> simp only [tractionRequest]
  case coasting => split <;> omega
  all_goals omega

theorem brakeRequest_le (c : Cal) {b : Nat} (hb : b ≤ 1000) (v : Nat) : brakeRequest c b v ≤ 32767 := by
  have hshare := mul_div_le_of_le hb (min 32767 (v * c.brakeSlope / 64))
  unfold brakeRequest
  omega

theorem regenCap_le_regenEnvelope (c : Cal) (permit : Permit) (v : Nat) : regenCap c permit v ≤ regenEnvelope c v := by
  unfold regenCap
  split
  · exact Nat.le_refl _
  · exact Nat.zero_le _

theorem regenCap_of_permit_ne_on (c : Cal) {permit : Permit} (h : permit ≠ .on) (v : Nat) : regenCap c permit v = 0 := by
  simp [regenCap, h]

/-- Each axle's friction power is at most the whole in size (R43). -/
theorem axleSplit_bounds {c : Cal} (hc : c.InRange) (fric : Nat) :
    ∀ p ∈ [(axleSplit c fric).1, (axleSplit c fric).2.1, (axleSplit c fric).2.2], -(fric : Int) ≤ p ∧ p ≤ fric := by
  have hone : fric * c.bias1 / 100 ≤ fric := by
    rw [Nat.mul_comm]; exact mul_div_le_of_le hc.bias1_le fric
  have htwo : fric * c.bias2 / 100 ≤ fric := by
    rw [Nat.mul_comm]; exact mul_div_le_of_le hc.bias2_le fric
  simp only [List.forall_mem_cons, List.not_mem_nil, false_implies, implies_true, and_true]
  unfold axleSplit
  split <;> dsimp only <;> omega

/-! ## The generator set-point before the clamps (R17, R18) -/

theorem genPreference_nonneg (x : DispatchInput) (pTrac : Int) : 0 ≤ genPreference x pTrac := by
  simp only [genPreference, clampInt]
  split <;> omega

theorem genPreference_le_genAvail (x : DispatchInput) (pTrac : Int) :
    genPreference x pTrac ≤ x.fields.genAvail := by
  simp only [genPreference, clampInt]
  split <;> omega

theorem genPreference_le_pWarm {x : DispatchInput} (h : x.engine = .warmup) (pTrac : Int) :
    genPreference x pTrac ≤ x.cal.pWarm := by
  simp only [genPreference, h, if_true]
  exact min_le_right _ _

theorem genSetPoint_of_not_generates {x : DispatchInput} (h : x.engine.generates = false) (pTrac : Int) :
    genSetPoint x pTrac = 0 := by
  simp [genSetPoint, h]

/-- The set-point is held to whatever the preference is held to. -/
theorem genSetPoint_le {x : DispatchInput} {pTrac bound : Int} (hpref : genPreference x pTrac ≤ bound) :
    genSetPoint x pTrac ≤ bound := by
  have hnonneg := genPreference_nonneg x pTrac
  unfold genSetPoint
  split <;> omega

theorem genSetPoint_nonneg {x : DispatchInput} (hprev : 0 ≤ x.genPrev) (pTrac : Int) : 0 ≤ genSetPoint x pTrac := by
  have hnonneg := genPreference_nonneg x pTrac
  unfold genSetPoint
  split <;> omega

/-! ## The two clamps (R20, R21) -/

/-- All that the discharge-side clamp can do: hold a positive motor power to what the battery may still supply, or nothing. -/
theorem dischargeClamp_cases (dis aux gen mot : Int) :
    (dis < mot + aux - gen ∧ 0 < mot ∧ dischargeClamp dis aux gen mot = (max 0 (dis + gen - aux), true))
      ∨ ((mot + aux - gen ≤ dis ∨ mot ≤ 0) ∧ dischargeClamp dis aux gen mot = (mot, false)) := by
  unfold dischargeClamp
  split
  · rename_i h; exact .inl ⟨h.1, h.2, rfl⟩
  · exact .inr ⟨by omega, rfl⟩

/-- All that the charge-side clamp can do: nothing; lower the generator to what the battery takes; or stop the generator and cut
the regeneration to what the battery and the auxiliaries take. -/
theorem chargeClamp_cases (chg aux gen mot : Int) :
    (-chg ≤ mot + aux - gen ∧ chargeClamp chg aux gen mot = (mot, gen, false))
      ∨ (mot + aux - gen < -chg ∧ 0 ≤ mot + aux + chg ∧ chargeClamp chg aux gen mot = (mot, mot + aux + chg, false))
      ∨ (mot + aux - gen < -chg ∧ mot + aux + chg < 0 ∧ chargeClamp chg aux gen mot = (-(chg + aux), 0, true)) := by
  unfold chargeClamp
  by_cases hlow : mot + aux - gen < -chg
  · by_cases hroom : 0 ≤ mot + aux + chg
    · rw [if_pos hlow, max_eq_right hroom]
      exact .inr (.inl ⟨hlow, hroom, if_neg (by omega)⟩)
    · have hcut : min (-mot) (chg + aux) = chg + aux := by omega
      rw [if_pos hlow, max_eq_left (by omega), hcut]
      exact .inr (.inr ⟨hlow, by omega, if_pos (by omega)⟩)
  · exact .inl ⟨by omega, if_neg hlow⟩

/-- The discharge-side clamp lowers a positive motor power only, to 0 at least. -/
theorem dischargeClamp_between (dis aux gen mot : Int) :
    min 0 mot ≤ (dischargeClamp dis aux gen mot).1 ∧ (dischargeClamp dis aux gen mot).1 ≤ mot := by
  rcases dischargeClamp_cases dis aux gen mot with ⟨hover, hpos, e⟩ | ⟨-, e⟩ <;> rw [e] <;> dsimp only <;> omega

/-- After the discharge-side clamp the battery supplies more than its limit only without motor power. -/
theorem dischargeClamp_overload (dis aux gen mot : Int)
    (h : dis < (dischargeClamp dis aux gen mot).1 + aux - gen) : (dischargeClamp dis aux gen mot).1 ≤ 0 := by
  rcases dischargeClamp_cases dis aux gen mot with ⟨hover, hpos, e⟩ | ⟨hnot, e⟩ <;> rw [e] at h ⊢ <;> dsimp only at h ⊢ <;> omega

/-- The charge-side clamp keeps the battery at or above the negative of the charge limit. -/
theorem chargeClamp_batt_ge (chg aux gen mot : Int) :
    -chg ≤ (chargeClamp chg aux gen mot).1 + aux - (chargeClamp chg aux gen mot).2.1 := by
  rcases chargeClamp_cases chg aux gen mot with ⟨h, e⟩ | ⟨-, -, e⟩ | ⟨-, -, e⟩ <;> rw [e] <;> dsimp only <;> omega

/-- The charge-side clamp raises the battery power at most to the negative of the charge limit. -/
theorem chargeClamp_batt_le (chg aux gen mot : Int) :
    (chargeClamp chg aux gen mot).1 + aux - (chargeClamp chg aux gen mot).2.1 ≤ max (mot + aux - gen) (-chg) := by
  rcases chargeClamp_cases chg aux gen mot with ⟨h, e⟩ | ⟨-, -, e⟩ | ⟨-, -, e⟩ <;> rw [e] <;> dsimp only <;> omega

/-- The charge-side clamp lowers the generator only, to 0 at least. -/
theorem chargeClamp_gen_between (chg aux gen mot : Int) :
    min 0 gen ≤ (chargeClamp chg aux gen mot).2.1 ∧ (chargeClamp chg aux gen mot).2.1 ≤ max 0 gen := by
  rcases chargeClamp_cases chg aux gen mot with ⟨-, e⟩ | ⟨hlow, hroom, e⟩ | ⟨-, -, e⟩ <;> rw [e] <;> dsimp only <;> omega

/-- The charge-side clamp leaves motor power alone, or cuts a regeneration that stays one. -/
theorem chargeClamp_mot {chg aux : Int} (hchg : 0 ≤ chg) (haux : 0 ≤ aux) (gen mot : Int) :
    (chargeClamp chg aux gen mot).1 = mot
      ∨ (mot < (chargeClamp chg aux gen mot).1 ∧ (chargeClamp chg aux gen mot).1 ≤ 0) := by
  rcases chargeClamp_cases chg aux gen mot with ⟨h, e⟩ | ⟨-, -, e⟩ | ⟨-, hcut, e⟩ <;> rw [e] <;> dsimp only <;> omega

/-! ## The split in MOTORING and COASTING (R15 to R22) -/

/-- Motor power before the clamps: the traction request under the permit (R19). -/
def startPower (x : DispatchInput) (mode : Mode) : Int :=
  if x.permit = .on then tractionRequest x.cal mode x.fields.a x.fields.v else 0

/-- The generator set-point before the clamps. -/
def startGen (x : DispatchInput) (mode : Mode) : Int :=
  genSetPoint x (tractionRequest x.cal mode x.fields.a x.fields.v)

/-- Motor power after the discharge-side clamp. -/
def cutPower (x : DispatchInput) (mode : Mode) : Int :=
  (dischargeClamp x.disEff x.fields.pAux (startGen x mode) (startPower x mode)).1

/-- Motor power, generator set-point and the charge-side mark after both clamps. -/
def heldPowers (x : DispatchInput) (mode : Mode) : Int × Int × Bool :=
  chargeClamp x.chgEff x.fields.pAux (startGen x mode) (cutPower x mode)

/-- The shares of the split are those of the two clamps. -/
theorem splitDecision_shares (x : DispatchInput) (mode : Mode) :
    (splitDecision x mode).shares =
      { mot := (heldPowers x mode).1, gen := (heldPowers x mode).2.1
        batt := (heldPowers x mode).1 + x.fields.pAux - (heldPowers x mode).2.1
        res := 0, fric := 0, axle1 := 0, axle2 := 0, axle3 := 0 } := rfl

/-- AUX_OVERLOAD is decided between the two clamps. -/
theorem splitDecision_auxOverload (x : DispatchInput) (mode : Mode) :
    (splitDecision x mode).flags.auxOverload
      = decide ((x.disEff : Int) < cutPower x mode + x.fields.pAux - startGen x mode) := rfl

theorem heldPowers_batt_ge (x : DispatchInput) (mode : Mode) :
    -(x.chgEff : Int) ≤ (heldPowers x mode).1 + x.fields.pAux - (heldPowers x mode).2.1 :=
  chargeClamp_batt_ge x.chgEff x.fields.pAux (startGen x mode) (cutPower x mode)

theorem heldPowers_batt_le (x : DispatchInput) (mode : Mode) :
    (heldPowers x mode).1 + x.fields.pAux - (heldPowers x mode).2.1
      ≤ max (cutPower x mode + x.fields.pAux - startGen x mode) (-x.chgEff) :=
  chargeClamp_batt_le x.chgEff x.fields.pAux (startGen x mode) (cutPower x mode)

theorem heldPowers_gen_between (x : DispatchInput) (mode : Mode) :
    min 0 (startGen x mode) ≤ (heldPowers x mode).2.1 ∧ (heldPowers x mode).2.1 ≤ max 0 (startGen x mode) :=
  chargeClamp_gen_between x.chgEff x.fields.pAux (startGen x mode) (cutPower x mode)

theorem heldPowers_mot (x : DispatchInput) (mode : Mode) :
    (heldPowers x mode).1 = cutPower x mode ∨ (cutPower x mode < (heldPowers x mode).1 ∧ (heldPowers x mode).1 ≤ 0) :=
  chargeClamp_mot (by omega) (by omega) (startGen x mode) (cutPower x mode)

theorem cutPower_between (x : DispatchInput) (mode : Mode) :
    min 0 (startPower x mode) ≤ cutPower x mode ∧ cutPower x mode ≤ startPower x mode :=
  dischargeClamp_between x.disEff x.fields.pAux (startGen x mode) (startPower x mode)

/-- R20: the battery is overloaded after the discharge-side clamp only without motor power. -/
theorem cutPower_nonpos_of_overload {x : DispatchInput} {mode : Mode}
    (h : (x.disEff : Int) < cutPower x mode + x.fields.pAux - startGen x mode) : cutPower x mode ≤ 0 :=
  dischargeClamp_overload x.disEff x.fields.pAux (startGen x mode) (startPower x mode) h

/-- Motor power after both clamps lies between 0 and the starting motor power. -/
theorem heldPowers_mot_between (x : DispatchInput) (mode : Mode) :
    min 0 (startPower x mode) ≤ (heldPowers x mode).1 ∧ (heldPowers x mode).1 ≤ max 0 (startPower x mode) := by
  have hcut := cutPower_between x mode
  have hheld := heldPowers_mot x mode
  omega

theorem startGen_nonneg {x : DispatchInput} (hprev : 0 ≤ x.genPrev) (mode : Mode) : 0 ≤ startGen x mode :=
  genSetPoint_nonneg hprev _

theorem startPower_between {x : DispatchInput} (ha : x.fields.a ≤ 1000) (mode : Mode) :
    -(regenEnvelope x.cal x.fields.v : Int) ≤ startPower x mode
      ∧ startPower x mode ≤ motorEnvelope x.cal x.fields.v := by
  have hlow := neg_regenEnvelope_le_tractionRequest x.cal mode x.fields.a x.fields.v
  have hhigh := tractionRequest_le_motorEnvelope x.cal mode ha x.fields.v
  unfold startPower
  split <;> omega

/-! ## The blend in BRAKING (R33 to R43) -/

/-- The regeneration of the blend: the request, held to the cap and to what battery, auxiliaries and resistor take (R39). -/
def blendRegen (x : DispatchInput) : Nat :=
  min (brakeRequest x.cal x.fields.b x.fields.v)
    (min (regenCap x.cal x.permit x.fields.v)
      (x.chgEff + x.fields.pAux + resistorAcceptance x.cal x.resistLevel x.heat))

/-- The friction power of the blend: what the regeneration leaves of the request. -/
def blendFriction (x : DispatchInput) : Nat := brakeRequest x.cal x.fields.b x.fields.v - blendRegen x

/-- The shares of the blend follow from its regeneration and its friction power. -/
theorem blendDecision_shares (x : DispatchInput) :
    (blendDecision x).shares =
      { mot := -(blendRegen x : Int), gen := 0
        batt := -(blendRegen x : Int) + x.fields.pAux + (blendRegen x - (x.chgEff + x.fields.pAux) : Nat)
        res := (blendRegen x - (x.chgEff + x.fields.pAux) : Nat), fric := blendFriction x
        axle1 := (axleSplit x.cal (blendFriction x)).1, axle2 := (axleSplit x.cal (blendFriction x)).2.1
        axle3 := (axleSplit x.cal (blendFriction x)).2.2 } := rfl

theorem blendDecision_auxOverload (x : DispatchInput) :
    (blendDecision x).flags.auxOverload = decide ((x.disEff : Int) < (blendDecision x).shares.batt) := rfl

theorem blendRegen_le_request (x : DispatchInput) : blendRegen x ≤ brakeRequest x.cal x.fields.b x.fields.v :=
  Nat.min_le_left _ _

theorem blendRegen_le_regenCap (x : DispatchInput) : blendRegen x ≤ regenCap x.cal x.permit x.fields.v :=
  (Nat.min_le_right _ _).trans (Nat.min_le_left _ _)

theorem blendRegen_le_acceptance (x : DispatchInput) :
    blendRegen x ≤ x.chgEff + x.fields.pAux + resistorAcceptance x.cal x.resistLevel x.heat :=
  (Nat.min_le_right _ _).trans (Nat.min_le_right _ _)

/-! ## The decision in any mode -/

/-- A dispatch blends in BRAKING, and splits in MOTORING and COASTING (R14). -/
theorem decideShares_cases (x : DispatchInput) :
    decideShares x = blendDecision x
      ∨ ∃ mode, (mode = .motoring ∨ mode = .coasting) ∧ decideShares x = splitDecision x mode := by
  unfold decideShares dispatchMode
  by_cases hbrake : x.cal.brakeDb ≤ x.fields.b
  · rw [if_pos hbrake]; exact .inl rfl
  · rw [if_neg hbrake]
    by_cases haccel : x.cal.accelDb ≤ x.fields.a
    · rw [if_pos haccel]; exact .inr ⟨.motoring, .inl rfl, rfl⟩
    · rw [if_neg haccel]; exact .inr ⟨.coasting, .inr rfl, rfl⟩

theorem decideShares_mode_ne_notActive (x : DispatchInput) : (decideShares x).mode ≠ .notActive := by
  rcases decideShares_cases x with e | ⟨mode, rfl | rfl, e⟩ <;> rw [e] <;> exact Mode.noConfusion

/-- R28, the power balance. -/
theorem decideShares_balance (x : DispatchInput) :
    (decideShares x).shares.mot + x.fields.pAux + (decideShares x).shares.res
      = (decideShares x).shares.gen + (decideShares x).shares.batt := by
  rcases decideShares_cases x with e | ⟨mode, -, e⟩ <;> rw [e]
  · simp only [blendDecision_shares]; omega
  · simp only [splitDecision_shares]; omega

/-- R29, the charge side. -/
theorem decideShares_batt_ge (x : DispatchInput) : -(x.chgEff : Int) ≤ (decideShares x).shares.batt := by
  rcases decideShares_cases x with e | ⟨mode, -, e⟩ <;> rw [e]
  · simp only [blendDecision_shares]; omega
  · exact heldPowers_batt_ge x mode

/-- R29, the discharge side without AUX_OVERLOAD. -/
theorem decideShares_batt_le_disEff {x : DispatchInput} (h : (decideShares x).flags.auxOverload = false) :
    (decideShares x).shares.batt ≤ x.disEff := by
  rcases decideShares_cases x with e | ⟨mode, -, e⟩ <;> rw [e] at h ⊢
  · rw [blendDecision_auxOverload, decide_eq_false_iff_not] at h; omega
  · rw [splitDecision_auxOverload, decide_eq_false_iff_not] at h
    have hbatt := heldPowers_batt_le x mode
    simp only [splitDecision_shares]
    omega

/-- R29, the discharge side with AUX_OVERLOAD. -/
theorem decideShares_mot_nonpos_of_auxOverload {x : DispatchInput} (h : (decideShares x).flags.auxOverload = true) :
    (decideShares x).shares.mot ≤ 0 := by
  rcases decideShares_cases x with e | ⟨mode, -, e⟩ <;> rw [e] at h ⊢
  · simp only [blendDecision_shares]; omega
  · rw [splitDecision_auxOverload, decide_eq_true_eq] at h
    have hcut := cutPower_nonpos_of_overload h
    have hheld := heldPowers_mot x mode
    simp only [splitDecision_shares]
    omega

/-- R28, the upper bound of battery power. -/
theorem decideShares_batt_le {x : DispatchInput} (hprev : 0 ≤ x.genPrev) :
    (decideShares x).shares.batt ≤ max (x.disEff : Int) x.fields.pAux := by
  rcases decideShares_cases x with e | ⟨mode, -, e⟩ <;> rw [e]
  · simp only [blendDecision_shares]; omega
  · have hgen := startGen_nonneg hprev mode
    have hbatt := heldPowers_batt_le x mode
    have hover := cutPower_nonpos_of_overload (x := x) (mode := mode)
    simp only [splitDecision_shares]
    omega

/-- R28, the envelopes of motor power. -/
theorem decideShares_mot_between {x : DispatchInput} (ha : x.fields.a ≤ 1000) :
    -(regenEnvelope x.cal x.fields.v : Int) ≤ (decideShares x).shares.mot
      ∧ (decideShares x).shares.mot ≤ motorEnvelope x.cal x.fields.v := by
  rcases decideShares_cases x with e | ⟨mode, -, e⟩ <;> rw [e]
  · have hcap := (blendRegen_le_regenCap x).trans (regenCap_le_regenEnvelope _ _ _)
    simp only [blendDecision_shares]
    omega
  · have hheld := heldPowers_mot_between x mode
    have hstart := startPower_between ha mode
    simp only [splitDecision_shares]
    omega

/-- R28: regeneration in BRAKING goes into the battery, the auxiliaries and the resistor. -/
theorem decideShares_regen_le_of_braking {x : DispatchInput} (h : (decideShares x).mode = .braking) :
    -(decideShares x).shares.mot ≤ x.chgEff + x.fields.pAux + resistorAcceptance x.cal x.resistLevel x.heat := by
  rcases decideShares_cases x with e | ⟨mode, hmode, e⟩ <;> rw [e] at h ⊢
  · have haccept := blendRegen_le_acceptance x
    simp only [blendDecision_shares]
    omega
  · rcases hmode with rfl | rfl <;> exact absurd h Mode.noConfusion

/-- R28: regeneration in COASTING goes into the battery and the auxiliaries. -/
theorem decideShares_regen_le_of_coasting {x : DispatchInput} (hprev : 0 ≤ x.genPrev)
    (h : (decideShares x).mode = .coasting) : -(decideShares x).shares.mot ≤ x.chgEff + x.fields.pAux := by
  rcases decideShares_cases x with e | ⟨mode, -, e⟩ <;> rw [e] at h ⊢
  · exact absurd h Mode.noConfusion
  · have hgen := startGen_nonneg hprev mode
    have hheld := heldPowers_gen_between x mode
    have hbatt := heldPowers_batt_ge x mode
    simp only [splitDecision_shares]
    omega

/-- R28, R30: the generator does not draw power. -/
theorem decideShares_gen_nonneg {x : DispatchInput} (hprev : 0 ≤ x.genPrev) : 0 ≤ (decideShares x).shares.gen := by
  rcases decideShares_cases x with e | ⟨mode, -, e⟩ <;> rw [e]
  · exact le_refl _
  · have hgen := startGen_nonneg hprev mode
    have hheld := heldPowers_gen_between x mode
    simp only [splitDecision_shares]
    omega

/-- The generator is held to whatever the preference is held to, and 0 (R17 to R21). -/
theorem decideShares_gen_le {x : DispatchInput} {bound : Int} (hpref : ∀ pTrac, genPreference x pTrac ≤ bound)
    (hbound : 0 ≤ bound) : (decideShares x).shares.gen ≤ bound := by
  rcases decideShares_cases x with e | ⟨mode, -, e⟩ <;> rw [e]
  · exact hbound
  · have hgen : startGen x mode ≤ bound := genSetPoint_le (hpref _)
    have hheld := heldPowers_gen_between x mode
    simp only [splitDecision_shares]
    omega

theorem decideShares_gen_le_genAvail (x : DispatchInput) : (decideShares x).shares.gen ≤ x.fields.genAvail :=
  decideShares_gen_le (genPreference_le_genAvail x) (by omega)

theorem decideShares_gen_le_pWarm {x : DispatchInput} (h : x.engine = .warmup) :
    (decideShares x).shares.gen ≤ x.cal.pWarm :=
  decideShares_gen_le (genPreference_le_pWarm h) (by omega)

theorem decideShares_gen_of_braking {x : DispatchInput} (h : (decideShares x).mode = .braking) :
    (decideShares x).shares.gen = 0 := by
  rcases decideShares_cases x with e | ⟨mode, hmode, e⟩ <;> rw [e] at h ⊢
  · rfl
  · rcases hmode with rfl | rfl <;> exact absurd h Mode.noConfusion

theorem decideShares_gen_of_not_generates {x : DispatchInput} (h : x.engine.generates = false) :
    (decideShares x).shares.gen = 0 := by
  rcases decideShares_cases x with e | ⟨mode, -, e⟩ <;> rw [e]
  · rfl
  · have hgen : startGen x mode = 0 := genSetPoint_of_not_generates h _
    have hheld := heldPowers_gen_between x mode
    simp only [splitDecision_shares]
    omega

/-- R31: no motor power without the permit. -/
theorem decideShares_mot_of_permit_ne_on {x : DispatchInput} (h : x.permit ≠ .on) :
    (decideShares x).shares.mot = 0 := by
  rcases decideShares_cases x with e | ⟨mode, -, e⟩ <;> rw [e]
  · have hcap := blendRegen_le_regenCap x
    rw [regenCap_of_permit_ne_on x.cal h] at hcap
    simp only [blendDecision_shares]
    omega
  · have hstart : startPower x mode = 0 := if_neg h
    have hheld := heldPowers_mot_between x mode
    simp only [splitDecision_shares]
    omega

/-- The shares of BRAKING fit in signed 16 bits (R33 to R43). -/
theorem blendDecision_shares_fit {x : DispatchInput} (hc : x.cal.InRange) (hb : x.fields.b ≤ 1000)
    (haux : x.fields.pAux ≤ 32767) (hchg : x.chgEff ≤ 32767) :
    let sh := (blendDecision x).shares
    ∀ p ∈ [sh.mot, sh.gen, sh.batt, sh.res, sh.fric, sh.axle1, sh.axle2, sh.axle3], -32768 ≤ p ∧ p ≤ 32767 := by
  have hreq := brakeRequest_le x.cal hb x.fields.v
  have hregen := blendRegen_le_request x
  have hfric : blendFriction x ≤ brakeRequest x.cal x.fields.b x.fields.v := Nat.sub_le _ _
  have haxles := axleSplit_bounds hc (blendFriction x)
  simp only [List.forall_mem_cons, List.not_mem_nil, false_implies, implies_true, and_true] at haxles ⊢
  obtain ⟨hone, htwo, hthree⟩ := haxles
  simp only [blendDecision_shares]
  omega

/-- R28: every share fits in signed 16 bits. -/
theorem decideShares_shares_fit {x : DispatchInput} (hc : x.cal.InRange) (ha : x.fields.a ≤ 1000)
    (hb : x.fields.b ≤ 1000) (haux : x.fields.pAux ≤ 32767) (havail : x.fields.genAvail ≤ 32767)
    (hdis : x.disEff ≤ 32767) (hchg : x.chgEff ≤ 32767) (hprev : 0 ≤ x.genPrev) :
    let sh := (decideShares x).shares
    ∀ p ∈ [sh.mot, sh.gen, sh.batt, sh.res, sh.fric, sh.axle1, sh.axle2, sh.axle3], -32768 ≤ p ∧ p ≤ 32767 := by
  have hmot := decideShares_mot_between ha
  have hgen := decideShares_gen_nonneg hprev
  have hgen' := decideShares_gen_le_genAvail x
  have hbatt := decideShares_batt_ge x
  have hbatt' := decideShares_batt_le hprev
  have hmotEnv := (motorEnvelope_le x.cal x.fields.v).trans hc.motPmax_le
  have hregenEnv := (regenEnvelope_le x.cal x.fields.v).trans hc.regenPmax_le
  rcases decideShares_cases x with e | ⟨mode, -, e⟩ <;> rw [e] at hmot hgen hgen' hbatt hbatt' ⊢
  · exact blendDecision_shares_fit hc hb haux hchg
  · simp only [List.forall_mem_cons, List.not_mem_nil, false_implies, implies_true, and_true]
    simp only [splitDecision_shares] at hmot hgen hgen' hbatt hbatt' ⊢
    omega

/-! ## The DISPATCH of a served DEMAND (R2, R3, R24, R25) -/

/-- The upper bounds of Table 1-3 on the fields that the shares are computed from (R2). -/
theorem demandFields_bounds (p : List Byte) :
    (demandFields p).a ≤ 1000 ∧ (demandFields p).b ≤ 1000 ∧ (demandFields p).pAux ≤ 32767
      ∧ (demandFields p).disRep ≤ 32767 ∧ (demandFields p).chgRep ≤ 32767 ∧ (demandFields p).genAvail ≤ 32767 :=
  ⟨Nat.min_le_left _ _, Nat.min_le_left _ _, Nat.min_le_left _ _, Nat.min_le_left _ _, Nat.min_le_left _ _,
    Nat.min_le_left _ _⟩

/-- R58: an effective limit never exceeds the report. -/
theorem effectiveLimit_le_report (rep mapValue h : Nat) : effectiveLimit rep mapValue h ≤ rep := Nat.min_le_left _ _

/-- What a dispatch of a DEMAND taken in a state reads (R12, R13): the settled permit, and the envelope of its lookup. -/
def inputAtTake (x : DemandFields) (s : State) : DispatchInput :=
  let look := envLookup s.cal (s.mdc.straps.mw == 3) x.temp x.soc s.env
  dispatchInput x look.1 look.2.1 (demandTaken x s)

/-- The DISPATCH `m` tells the decision on the input `i`, which was read in `s` for the DEMAND payload `p`. -/
structure Decided (s : State) (p : List Byte) (i : DispatchInput) (m : DispatchMsg) : Prop where
  fields : i.fields = demandFields p
  engine : i.engine = s.eng.state
  level : i.resistLevel = (s.wru.counter 7).level
  heat : i.heat = s.dsp.heat
  genPrev : i.genPrev = s.dsp.genPrev
  cal : i.cal = s.cal
  disRep : i.disEff ≤ (demandFields p).disRep
  chgRep : i.chgEff ≤ (demandFields p).chgRep
  permit : m.permit = i.permit
  mode : m.mode = (decideShares i).mode
  shares : m.shares = (decideShares i).shares
  flags : m.flags = (decideShares i).flags
  disEff : m.disEff = i.disEff
  chgEff : m.chgEff = i.chgEff

/-- The taking of a DEMAND leaves H and P_gen_prev as they were. -/
theorem demandTaken_heat_genPrev (x : DemandFields) (s : State) :
    (demandTaken x s).dsp.heat = s.dsp.heat ∧ (demandTaken x s).dsp.genPrev = s.dsp.genPrev := by
  unfold demandTaken settlePermit
  split <;> exact ⟨rfl, rfl⟩

/-- A dispatch answers with the DISPATCH of its decision. -/
theorem dispatch_decided (p : List Byte) (s : State) :
    ∃ m, Decided s p (inputAtTake (demandFields p) s) m
      ∧ (dispatch (demandFields p) s).lnk.replies = s.lnk.replies ++ [.dispatch m] := by
  refine ⟨dispatchMsg (demandTaken (demandFields p) s) (inputAtTake (demandFields p) s)
    (envLookup s.cal (s.mdc.straps.mw == 3) (demandFields p).temp (demandFields p).soc s.env).1.stress
    (intervalMs s.now s.dsp.lastDemand) (decideShares (inputAtTake (demandFields p) s)), ?_, ?_⟩
  · obtain ⟨hheat, hprev⟩ := demandTaken_heat_genPrev (demandFields p) s
    constructor
    case heat => exact hheat
    case genPrev => exact hprev
    case disRep | chgRep => exact effectiveLimit_le_report _ _ _
    all_goals simp [inputAtTake, dispatchInput, dispatchMsg]
  · simp [dispatch, inputAtTake]
    rfl

/-- All that a DISPATCH of a served DEMAND can be: the answer NOT_ACTIVE, or in ACTIVE the decision on what the dispatch read. -/
theorem demand_dispatch_cases {s t : State} {p : List Byte} {rest : List Frame} {m : DispatchMsg}
    (hs : Serves s ⟨0x10, p⟩ rest) (he : exec .demand s = .next t)
    (hr : t.lnk.replies = s.lnk.replies ++ [.dispatch m]) :
    (s.mdc.op ≠ .active ∧ m.mode = .notActive ∧ m.shares = Shares.zero) ∨ ∃ i, Decided s p i m := by
  cases he
  rcases takeRequest_cases 0x10 (fun _ s => s.mail.heatIn.isEmpty && !s.mail.loadEndDsp) execDemand.serve s with
    e | ⟨f, rest', hf, -, ⟨-, e⟩ | ⟨-, -, e⟩⟩ <;> rw [e] at hr
  · simp at hr
  · simp [State.answered] at hr
  · obtain ⟨rfl, rfl⟩ : (⟨0x10, p⟩ : Frame) = f ∧ rest = rest' := by simpa using hs.intake.symm.trans hf.intake
    cases hop : s.mdc.op <;> simp only [execDemand.serve, State.setLnk_mdc, hop] at hr
    case active =>
      obtain ⟨m', hm, hreplies⟩ := dispatch_decided p (s.setLnk { s.lnk with intake := rest })
      obtain rfl : m' = m := by simpa [hreplies] using hr
      exact .inr ⟨_, hm.fields, hm.engine, hm.level, hm.heat, hm.genPrev, hm.cal, hm.disRep, hm.chgRep, hm.permit,
        hm.mode, hm.shares, hm.flags, hm.disEff, hm.chgEff⟩
    all_goals
      obtain rfl : notActiveMsg (s.setLnk { s.lnk with intake := rest }) = m := by simpa [answer] using hr
      exact .inl ⟨OpState.noConfusion, rfl, rfl⟩

/-! ## TPERMIT and the permit (R6, R31) -/

/-- TPERMIT is high exactly while the permit is ON. -/
def Dsp.LineAgrees (d : Dsp) : Prop := d.tpermit = true ↔ d.permit = .on

/-- The permit and its line always change together (R6). -/
theorem Dsp.setPermit_lineAgrees (d : Dsp) (p : Permit) : (d.setPermit p).LineAgrees := by
  simp [Dsp.LineAgrees, Dsp.setPermit]

/-- Where permit and line are as they were, they agree as they did. -/
theorem Dsp.LineAgrees.of_eq {d e : Dsp} (h : d.LineAgrees) (hp : e.permit = d.permit) (ht : e.tpermit = d.tpermit) :
    e.LineAgrees := by
  unfold Dsp.LineAgrees
  rw [hp, ht]
  exact h

/-- A request keeps a property of the state that its service keeps and the queues do not touch. -/
theorem takeRequest_preserves {P : State → Prop} {s : State} (type : Byte) (ready : Frame → State → Bool)
    {serve : Frame → State → State} (hlnk : ∀ s l, P s → P (s.setLnk l)) (hserve : ∀ f s, P s → P (serve f s))
    (h : P s) : P (takeRequest type ready serve s) := by
  rcases takeRequest_cases type ready serve s with e | ⟨f, rest, -, -, ⟨-, e⟩ | ⟨-, -, e⟩⟩ <;> rw [e]
  · exact h
  · exact hlnk s _ h
  · exact hserve f _ (hlnk s _ h)

theorem takeRequest_lineAgrees {s : State} (type : Byte) (ready : Frame → State → Bool) {serve : Frame → State → State}
    (hserve : ∀ f s, s.dsp.LineAgrees → (serve f s).dsp.LineAgrees) (h : s.dsp.LineAgrees) :
    (takeRequest type ready serve s).dsp.LineAgrees :=
  takeRequest_preserves (P := fun s => s.dsp.LineAgrees) type ready (fun _ _ h => h) hserve h

theorem demandTaken_lineAgrees (x : DemandFields) {s : State} (h : s.dsp.LineAgrees) :
    (demandTaken x s).dsp.LineAgrees := by
  unfold demandTaken settlePermit
  split
  · exact Dsp.setPermit_lineAgrees s.dsp .on
  · exact h

theorem dispatch_lineAgrees (x : DemandFields) {s : State} (h : s.dsp.LineAgrees) : (dispatch x s).dsp.LineAgrees :=
  (demandTaken_lineAgrees x h).of_eq rfl rfl

theorem heatTakes_lineAgrees (x : ResultRecord) {s : State} (h : s.dsp.LineAgrees) : (heatTakes x s).dsp.LineAgrees := by
  unfold heatTakes heatMark
  dsimp only
  (repeat' split) <;> exact h

theorem heatTakesNext_lineAgrees {s : State} (h : s.dsp.LineAgrees) : (heatTakesNext s).dsp.LineAgrees := by
  unfold heatTakesNext
  split
  · exact h
  · exact heatTakes_lineAgrees _ h

theorem clampHeat_lineAgrees {s : State} (h : s.dsp.LineAgrees) : (clampHeat s).dsp.LineAgrees := h

theorem dspTakesLoadEnd_lineAgrees {s : State} (h : s.dsp.LineAgrees) : (dspTakesLoadEnd s).dsp.LineAgrees := by
  unfold dspTakesLoadEnd
  dsimp only
  (repeat' split) <;> exact h

theorem dspStart_lineAgrees (s : State) : (dspStart s).dsp.LineAgrees := Dsp.setPermit_lineAgrees s.dsp .waitRelease

theorem dspHalt_lineAgrees (s : State) : (dspHalt s).dsp.LineAgrees := Dsp.setPermit_lineAgrees s.dsp .off

theorem calWriteEffect_lineAgrees (id : Nat) {s : State} (h : s.dsp.LineAgrees) :
    (calWriteEffect id s).dsp.LineAgrees := by
  unfold calWriteEffect
  split
  · exact clampHeat_lineAgrees h
  · split
    · simpa using h
    · exact h

theorem Dsp.reset_lineAgrees : Dsp.reset.LineAgrees := by simp [Dsp.LineAgrees, Dsp.reset]

/-- A RESTART leaves the permit OFF and its line low (R161). -/
theorem restartEffect_lineAgrees (s : State) : (restartEffect s).dsp.LineAgrees := by
  simp only [restartEffect, enterLoading_leaves]
  exact Dsp.reset_lineAgrees.of_eq rfl rfl

theorem demandTimerExpiry_lineAgrees {s t : State} (h : s.dsp.LineAgrees) (he : exec .demandTimerExpiry s = .next t) :
    t.dsp.LineAgrees := by
  simp only [exec, execDemandTimerExpiry, Host.Outcome.next.injEq] at he
  subst he
  split
  · split
    · exact Dsp.setPermit_lineAgrees s.dsp .waitRelease
    all_goals exact h
  · exact h

theorem demandServe_lineAgrees (f : Frame) {s : State} (h : s.dsp.LineAgrees) :
    (execDemand.serve f s).dsp.LineAgrees := by
  unfold execDemand.serve
  split
  · exact dispatch_lineAgrees _ h
  all_goals exact h

theorem startServe_lineAgrees (f : Frame) {s : State} (h : s.dsp.LineAgrees) :
    (execStart.serve f s).dsp.LineAgrees := by
  unfold execStart.serve
  split
  · split
    · exact h
    · simpa using dspStart_lineAgrees _
  all_goals exact h

theorem haltServe_lineAgrees (f : Frame) {s : State} (h : s.dsp.LineAgrees) : (execHalt.serve f s).dsp.LineAgrees := by
  unfold execHalt.serve
  split
  · simpa using dspHalt_lineAgrees _
  all_goals exact h

theorem calWriteServe_lineAgrees (f : Frame) {s : State} (h : s.dsp.LineAgrees) :
    (execCalWrite.serve f s).dsp.LineAgrees := by
  unfold execCalWrite.serve
  split
  · dsimp only
    split
    · exact calWriteEffect_lineAgrees _ h
    · exact h
  all_goals exact h

/-- Every command keeps that TPERMIT is high exactly while the permit is ON. -/
theorem exec_lineAgrees (c : Instr) {s t : State} (h : s.dsp.LineAgrees) (he : exec c s = .next t) :
    t.dsp.LineAgrees := by
  by_cases hc : changesDsp c = false
  · rw [dsp_kept c hc s t he]; exact h
  cases c
  case powerOn straps | resetn straps =>
    cases he
    simp only [enterLoading_leaves]
    exact Dsp.reset_lineAgrees
  case heatInit => cases he; exact dspTakesLoadEnd_lineAgrees h
  case heatUpdate => cases he; exact heatTakesNext_lineAgrees h
  case demandTimerExpiry => exact demandTimerExpiry_lineAgrees h he
  case demand => cases he; exact takeRequest_lineAgrees _ _ (fun f _ => demandServe_lineAgrees f) h
  case start => cases he; exact takeRequest_lineAgrees _ _ (fun f _ => startServe_lineAgrees f) h
  case halt => cases he; exact takeRequest_lineAgrees _ _ (fun f _ => haltServe_lineAgrees f) h
  case calWrite => cases he; exact takeRequest_lineAgrees _ _ (fun f _ => calWriteServe_lineAgrees f) h
  case transmitEnd =>
    simp only [exec, execTransmitEnd, Host.Outcome.next.injEq] at he
    subst he
    split
    · exact h
    · split
      · exact restartEffect_lineAgrees s
      · exact h
  all_goals exact absurd rfl hc

/-- Every step keeps that TPERMIT is high exactly while the permit is ON. -/
theorem step_lineAgrees {s t : State} (h : s.dsp.LineAgrees) (he : step s = .next t) : t.dsp.LineAgrees := by
  unfold step at he
  split at he
  · cases he; exact h
  · refine exec_lineAgrees _ ?_ he
    exact h

/-! ## The obligations -/

/-- Settles O14: in ACTIVE each part is a fact about the decision, under the bounds of Table 1-3 and of the calibration set. -/
theorem powerBalance : Obligations.PowerBalance := by
  intro s t p rest m hs hinv he hr
  rcases demand_dispatch_cases hs he hr with ⟨-, hmode, hshares⟩ | ⟨i, hi⟩
  · simp [hmode, hshares, Shares.zero]
  · have hne : m.mode ≠ .notActive := hi.mode ▸ decideShares_mode_ne_notActive i
    obtain ⟨ha, hb, haux, hdis, hchg, havail⟩ := demandFields_bounds p
    have hdisEff := hi.disRep.trans hdis
    have hchgEff := hi.chgRep.trans hchg
    have hprev : 0 ≤ i.genPrev := hi.genPrev ▸ hinv.genPrev.1
    have hrange : i.cal.InRange := hi.cal ▸ hinv.ranges
    rw [← hi.fields] at ha hb haux havail
    have hgen := decideShares_gen_le_genAvail i
    simp only [hne, if_false, false_implies, and_true]
    rw [← hi.fields, ← hi.cal, ← hi.level, ← hi.heat, hi.mode, hi.shares, hi.chgEff, hi.disEff]
    exact ⟨decideShares_balance i,
      decideShares_shares_fit hrange ha hb haux havail hdisEff hchgEff hprev,
      ⟨decideShares_gen_nonneg hprev, by omega⟩,
      ⟨decideShares_batt_ge i, decideShares_batt_le hprev⟩,
      decideShares_mot_between ha,
      decideShares_regen_le_of_coasting hprev,
      decideShares_regen_le_of_braking⟩

/-- Settles O15: the two clamps and the blend keep the battery within its limits. -/
theorem batteryWithinLimits : Obligations.BatteryWithinLimits := by
  intro s t p rest m hs hop he hr
  rcases demand_dispatch_cases hs he hr with ⟨hidle, -⟩ | ⟨i, hi⟩
  · exact absurd hop hidle
  · rw [hi.chgEff, hi.disEff, hi.shares, hi.flags]
    exact ⟨decideShares_batt_ge i, decideShares_batt_le_disEff, decideShares_mot_nonpos_of_auxOverload⟩

/-- Settles O16: the preference is held to each bound, and the slew limit and the charge-side clamp only lower it. -/
theorem generatorBounds : Obligations.GeneratorBounds := by
  intro s t p rest m hs he hr
  rcases demand_dispatch_cases hs he hr with ⟨-, hmode, hshares⟩ | ⟨i, hi⟩
  · simp [hmode, hshares, Shares.zero]
  · rw [hi.mode, hi.shares, ← hi.engine, ← hi.fields, ← hi.cal]
    exact ⟨decideShares_gen_of_braking,
      fun hwarm hrun => decideShares_gen_of_not_generates (by simp [EngState.generates, hwarm, hrun]),
      decideShares_gen_le_genAvail i, decideShares_gen_le_pWarm⟩

/-- Settles O17: without the permit the clamps start from no motor power, and every command that changes the permit sets its
line with it. -/
theorem motorPermitAgreement : Obligations.MotorPermitAgreement := by
  refine ⟨fun s t p rest m hs he hr hpermit => ?_, fun s t => step_lineAgrees⟩
  rcases demand_dispatch_cases hs he hr with ⟨-, -, hshares⟩ | ⟨i, hi⟩
  · rw [hshares]; rfl
  · rw [hi.shares]
    exact decideShares_mot_of_permit_ne_on (hi.permit ▸ hpermit)

end Sys2Proof.Machine
end

section
/-!
PROOFS. The braking blend (R44): the request is met by regeneration and friction, and the axles share the friction power.
-/
namespace Sys2Proof.Machine

/-! ## The blend and its request (R39, R43, R44) -/

/-- The axle values sum to the friction power, on two axles as on three: the last fitted axle takes the remainder (R43). -/
theorem axleSplit_sum (c : Cal) (fric : Nat) :
    (axleSplit c fric).1 + (axleSplit c fric).2.1 + (axleSplit c fric).2.2 = fric := by
  unfold axleSplit
  split <;> dsimp only <;> omega

/-- The regeneration never exceeds the request, so that friction makes up exactly the rest. -/
theorem blendFriction_add_blendRegen (x : DispatchInput) :
    blendFriction x + blendRegen x = brakeRequest x.cal x.fields.b x.fields.v :=
  Nat.sub_add_cancel (blendRegen_le_request x)

/-- A decision in BRAKING is the blend (R14). -/
theorem decideShares_eq_blendDecision_of_braking {x : DispatchInput} (h : (decideShares x).mode = .braking) :
    decideShares x = blendDecision x := by
  rcases decideShares_cases x with e | ⟨mode, hmode, e⟩
  · exact e
  · rw [e] at h
    rcases hmode with rfl | rfl <;> exact absurd h Mode.noConfusion

/-- R44: friction power and regeneration together are the braking request. -/
theorem decideShares_fric_sub_mot_of_braking {x : DispatchInput} (h : (decideShares x).mode = .braking) :
    (decideShares x).shares.fric - (decideShares x).shares.mot = brakeRequest x.cal x.fields.b x.fields.v := by
  have hrequest := blendFriction_add_blendRegen x
  rw [decideShares_eq_blendDecision_of_braking h]
  simp only [blendDecision_shares]
  omega

/-- R44: the axle values sum to the friction power. -/
theorem decideShares_axles_of_braking {x : DispatchInput} (h : (decideShares x).mode = .braking) :
    (decideShares x).shares.axle1 + (decideShares x).shares.axle2 + (decideShares x).shares.axle3
      = (decideShares x).shares.fric := by
  rw [decideShares_eq_blendDecision_of_braking h]
  exact axleSplit_sum x.cal (blendFriction x)

/-- R44: the balance of R28 without a generator. -/
theorem decideShares_balance_of_braking {x : DispatchInput} (h : (decideShares x).mode = .braking) :
    (decideShares x).shares.mot + x.fields.pAux + (decideShares x).shares.res = (decideShares x).shares.batt := by
  rw [decideShares_balance, decideShares_gen_of_braking h, zero_add]

/-! ## The obligation -/

/-- Settles O18: a DISPATCH in BRAKING tells the blend, whose friction is what its regeneration leaves of the request. -/
theorem brakingBalance : Obligations.BrakingBalance := by
  intro s t p rest m hs he hr hbraking
  rcases demand_dispatch_cases hs he hr with ⟨-, hmode, -⟩ | ⟨i, hi⟩
  · exact absurd (hmode.symm.trans hbraking) Mode.noConfusion
  · have hdecided : (decideShares i).mode = .braking := hi.mode ▸ hbraking
    rw [hi.shares, ← hi.fields, ← hi.cal]
    exact ⟨decideShares_fric_sub_mot_of_braking hdecided, decideShares_axles_of_braking hdecided,
      decideShares_gen_of_braking hdecided, decideShares_balance_of_braking hdecided⟩

end Sys2Proof.Machine
end

section
/-!
PROOFS. The effective limits and the reported limits of the same DEMAND (R59).
-/
namespace Sys2Proof.Machine

/-! ## The reported limits and their raw bytes (R2) -/

/-- The treatment of Table 1-3 only lowers the reported limits. -/
theorem demandFields_reports_le_raw (p : List Byte) :
    (demandFields p).disRep ≤ u16At p 12 ∧ (demandFields p).chgRep ≤ u16At p 14 :=
  ⟨Nat.min_le_right _ _, Nat.min_le_right _ _⟩

/-! ## The DISPATCH outside ACTIVE (R25) -/

/-- A DEMAND answered with a DISPATCH was served: waiting adds no answer, and a wrong length is answered with a REPLY. -/
theorem demand_served_of_dispatch {s t : State} {p : List Byte} {rest : List Frame} {m : DispatchMsg}
    (hs : Serves s ⟨0x10, p⟩ rest) (he : exec .demand s = .next t)
    (hr : t.lnk.replies = s.lnk.replies ++ [.dispatch m]) :
    t = execDemand.serve ⟨0x10, p⟩ (s.setLnk { s.lnk with intake := rest }) := by
  cases he
  rcases takeRequest_cases 0x10 (fun _ s => s.mail.heatIn.isEmpty && !s.mail.loadEndDsp) execDemand.serve s with
    hwaits | ⟨f, rest', hf, -, ⟨-, hbadLength⟩ | ⟨-, -, hserved⟩⟩
  · rw [hwaits] at hr
    simp at hr
  · rw [hbadLength] at hr
    simp [State.answered] at hr
  · obtain ⟨rfl, rfl⟩ : (⟨0x10, p⟩ : Frame) = f ∧ rest = rest' := by simpa using hs.intake.symm.trans hf.intake
    exact hserved

/-- Outside ACTIVE the one DISPATCH there can be is NOT_ACTIVE. -/
theorem dispatch_eq_notActiveMsg {s t : State} {p : List Byte} {rest : List Frame} {m : DispatchMsg}
    (hs : Serves s ⟨0x10, p⟩ rest) (hop : s.mdc.op ≠ .active) (he : exec .demand s = .next t)
    (hr : t.lnk.replies = s.lnk.replies ++ [.dispatch m]) :
    m = notActiveMsg (s.setLnk { s.lnk with intake := rest }) := by
  obtain rfl := demand_served_of_dispatch hs he hr
  cases hstate : s.mdc.op <;> simp only [execDemand.serve, State.setLnk_mdc, hstate] at hr
  case active => exact absurd hstate hop
  all_goals simpa [answer] using hr.symm

/-! ## The obligation -/

/-- Settles O19: a NOT_ACTIVE DISPATCH tells both limits as 0, and a dispatch in ACTIVE derates the clamped reports. -/
theorem limitsWithinReports : Obligations.LimitsWithinReports := by
  intro s t p rest m hs he hr
  rcases demand_dispatch_cases hs he hr with ⟨hidle, -⟩ | ⟨i, hi⟩
  · rw [dispatch_eq_notActiveMsg hs hidle he hr]
    exact ⟨Nat.zero_le _, Nat.zero_le _⟩
  · obtain ⟨hdis, hchg⟩ := demandFields_reports_le_raw p
    exact ⟨hi.disEff.trans_le (hi.disRep.trans hdis), hi.chgEff.trans_le (hi.chgRep.trans hchg)⟩

end Sys2Proof.Machine
end

section
/-!
PROOFS. The Route Unit's invariant (R110, R113): what each operation of RTE keeps, which commands can touch what the invariant
speaks of, and that every step keeps it.
-/
namespace Sys2Proof.Machine

/-! ## The invariant, cursor state by cursor state -/

/-- What RTE stores whatever its cursor does: carry, trim and segment table (R105, R110, R120). -/
structure Rte.Stored (r : Rte) : Prop where
  carry : r.carry < 147456
  trim : 3851 ≤ r.trim ∧ r.trim ≤ 4341
  table : ∀ k < 64, ∀ g ∈ (r.table[k]?).getD none, g.Wf

/-- RTE holds the plan `p`, and every slot of its range is loaded (R107). -/
structure Rte.Drives (r : Rte) (p : Plan) : Prop where
  plan : r.plan = some p
  wf : p.Wf
  loaded : ∀ k, p.first ≤ k → k ≤ p.last → r.loaded k = true

/-- The remaining distance fits the current segment (R108, R113). -/
def Rte.OnSegment (r : Rte) : Prop :=
  (r.cursor = .running ∧ (r.segment r.index).kind = .run ∧ 1 ≤ r.remaining
      ∧ r.remaining ≤ (r.segment r.index).len * 10000)
    ∨ (r.cursor = .holding ∧ (r.segment r.index).kind = .hold ∧ r.remaining = 0)

/-- Where the cursor can be, with what each place asks of plan, position and lookahead (Table 5-5, R113, R123). -/
inductive Rte.Placed (r : Rte) : Prop where
  | idle (cursor : r.cursor = .idle) (plan : r.plan = none) (look : r.look = none)
  | done (p : Plan) (cursor : r.cursor = .done) (plan : r.plan = some p) (wf : p.Wf) (look : r.look = none)
  | inPlan (p : Plan) (drives : r.Drives p) (first : p.first ≤ r.index) (last : r.index ≤ p.last)
      (onSegment : r.OnSegment) (look : r.look.isSome = true)

/-- RTE's own part of the invariant. -/
structure Rte.Sound (r : Rte) : Prop where
  stored : r.Stored
  placed : r.Placed

/-- A record that RTE may take: the bounds of R2 and R4. -/
def ResultRecord.Bounded (x : ResultRecord) : Prop := x.v ≤ 1200 ∧ x.dt ≤ 100

/-- What is on its way to RTE and from RTE to WRU, and the km accumulator (R2, R4, R112, R145). -/
structure State.RouteFlow (s : State) : Prop where
  records : ∀ x ∈ s.mail.rteIn, x.Bounded
  distances : ∀ d ∈ s.mail.kmIn, d ≤ 3533
  km : s.wru.kmAcc < 1000000

theorem Rte.loaded_iff {r : Rte} {k : Nat} : r.loaded k = true ↔ ∃ g, r.table[k]? = some (some g) := by
  unfold Rte.loaded
  cases r.table[k]? with
  | none => simp
  | some x => cases x <;> simp

/-- A cursor on a segment is RUNNING or HOLDING. -/
theorem Rte.OnSegment.inPlan {r : Rte} (h : r.OnSegment) : r.cursor.inPlan = true := by
  rcases h with ⟨hc, -⟩ | ⟨hc, -⟩ <;> rw [hc] <;> rfl

/-- A cursor in a plan drives it from a segment of its range. -/
theorem Rte.Placed.of_inPlan {r : Rte} (h : r.Placed) (hc : r.cursor.inPlan = true) :
    ∃ p, r.Drives p ∧ p.first ≤ r.index ∧ r.index ≤ p.last ∧ r.OnSegment ∧ r.look.isSome = true := by
  cases h with
  | idle cursor => rw [cursor] at hc; cases hc
  | done _ cursor => rw [cursor] at hc; cases hc
  | inPlan p drives first last onSegment look => exact ⟨p, drives, first, last, onSegment, look⟩

/-- A cursor in the plan `p` drives `p`. -/
theorem Rte.Placed.drives {r : Rte} (h : r.Placed) (hc : r.cursor.inPlan = true) {p : Plan} (hp : r.plan = some p) :
    r.Drives p := by
  obtain ⟨q, hd, -⟩ := h.of_inPlan hc
  obtain rfl : q = p := Option.some.inj (hd.plan.symm.trans hp)
  exact hd

theorem Plan.Wf.last_le {p : Plan} (h : p.Wf) : p.last ≤ 63 := by
  obtain ⟨-, hlast, -⟩ := h
  exact hlast

theorem RouteInv.stored {s : State} (h : RouteInv s) : s.rte.Stored := ⟨h.carry, h.trim, h.table⟩

theorem RouteInv.drives {s : State} (h : RouteInv s) (hc : s.rte.cursor.inPlan = true) :
    ∃ p, s.rte.Drives p ∧ p.first ≤ s.rte.index ∧ s.rte.index ≤ p.last := by
  have hplan : s.rte.plan ≠ none := fun e => by rw [h.planned.mp e] at hc; cases hc
  obtain ⟨p, hp⟩ := Option.ne_none_iff_exists'.mp hplan
  have hwf : p.Wf := h.plan p hp
  obtain ⟨hfirst, hlast⟩ := h.inRange hc p hp
  have hslots := hwf.last_le
  exact ⟨p, ⟨hp, hwf, fun k hk hk' => Rte.loaded_iff.mpr (h.loaded hc p hp k (by omega) hk hk')⟩, hfirst, hlast⟩

theorem RouteInv.placed {s : State} (h : RouteInv s) : s.rte.Placed := by
  have hlook := h.look
  cases hc : s.rte.cursor with
  | idle =>
    rw [hc] at hlook
    exact .idle hc (h.planned.mpr hc) (Option.isSome_eq_false_iff.mp hlook |> Option.isNone_iff_eq_none.mp)
  | done =>
    rw [hc] at hlook
    have hplan : s.rte.plan ≠ none := fun e => by rw [h.planned.mp e] at hc; cases hc
    obtain ⟨p, hp⟩ := Option.ne_none_iff_exists'.mp hplan
    exact .done p hc hp (h.plan p hp) (Option.isSome_eq_false_iff.mp hlook |> Option.isNone_iff_eq_none.mp)
  | running =>
    rw [hc] at hlook
    obtain ⟨p, hd, hfirst, hlast⟩ := h.drives (by rw [hc]; rfl)
    exact .inPlan p hd hfirst hlast (.inl ⟨hc, h.running hc⟩) hlook
  | holding =>
    rw [hc] at hlook
    obtain ⟨p, hd, hfirst, hlast⟩ := h.drives (by rw [hc]; rfl)
    exact .inPlan p hd hfirst hlast (.inr ⟨hc, h.holding hc⟩) hlook

/-- The invariant, put together from RTE's own part and what is on its way. -/
theorem RouteInv.of_sound {s : State} (hr : s.rte.Sound) (hf : s.RouteFlow) : RouteInv s where
  carry := hr.stored.carry
  trim := hr.stored.trim
  table := hr.stored.table
  plan p hp := by
    cases hr.placed with
    | idle _ plan => rw [plan] at hp; cases hp
    | done q _ plan wf => rw [plan] at hp; cases hp; exact wf
    | inPlan q drives => rw [drives.plan] at hp; cases hp; exact drives.wf
  planned := by
    cases hr.placed with
    | idle cursor plan => simp [cursor, plan]
    | done q cursor plan => simp [cursor, plan]
    | inPlan q drives _ _ onSegment =>
      rcases onSegment with ⟨hc, -⟩ | ⟨hc, -⟩ <;> simp [hc, drives.plan]
  loaded hc p hp k _ hk hk' := Rte.loaded_iff.mp ((hr.placed.drives hc hp).loaded k hk hk')
  inRange hc p hp := by
    obtain ⟨q, hd, hfirst, hlast, -⟩ := hr.placed.of_inPlan hc
    obtain rfl : q = p := Option.some.inj (hd.plan.symm.trans hp)
    exact ⟨hfirst, hlast⟩
  running hc := by
    obtain ⟨q, -, -, -, ⟨-, hseg⟩ | ⟨hhold, -⟩, -⟩ := hr.placed.of_inPlan (by rw [hc]; rfl)
    · exact hseg
    · rw [hc] at hhold; cases hhold
  holding hc := by
    obtain ⟨q, -, -, -, ⟨hrun, -⟩ | ⟨-, hseg⟩, -⟩ := hr.placed.of_inPlan (by rw [hc]; rfl)
    · rw [hc] at hrun; cases hrun
    · exact hseg
  look := by
    cases hr.placed with
    | idle cursor _ look => rw [cursor, look]; rfl
    | done _ cursor _ _ look => rw [cursor, look]; rfl
    | inPlan _ _ _ _ onSegment look => rw [look, onSegment.inPlan]
  records := hf.records
  distances := hf.distances
  km := hf.km

/-- The invariant is RTE's own part and what is on its way. -/
theorem routeInv_iff {s : State} : RouteInv s ↔ s.rte.Sound ∧ s.RouteFlow :=
  ⟨fun h => ⟨⟨h.stored, h.placed⟩, ⟨h.records, h.distances, h.km⟩⟩, fun ⟨hr, hf⟩ => .of_sound hr hf⟩

theorem RouteInv.sound {s : State} (h : RouteInv s) : s.rte.Sound := (routeInv_iff.mp h).1

theorem RouteInv.flow {s : State} (h : RouteInv s) : s.RouteFlow := (routeInv_iff.mp h).2

/-- The flow is that of a state that agrees in the two queues and the accumulator. -/
theorem State.RouteFlow.of_eq {s t : State} (h : s.RouteFlow) (hin : t.mail.rteIn = s.mail.rteIn)
    (hkm : t.mail.kmIn = s.mail.kmIn) (hacc : t.wru.kmAcc = s.wru.kmAcc) : t.RouteFlow := by
  refine ⟨?_, ?_, ?_⟩
  · rw [hin]; exact h.records
  · rw [hkm]; exact h.distances
  · rw [hacc]; exact h.km

/-! ## Moving the cursor (R108, R112 to R117) -/

/-- A slot of the range of a driven plan holds a well-formed segment (R105, R107). -/
theorem Rte.Drives.segment_wf {r : Rte} {p : Plan} (hd : r.Drives p) (hs : r.Stored) {k : Nat} (hfirst : p.first ≤ k)
    (hlast : k ≤ p.last) : (r.segment k).Wf := by
  obtain ⟨g, hg⟩ := Rte.loaded_iff.mp (hd.loaded k hfirst hlast)
  have hslots := hd.wf.last_le
  have hwf : g.Wf := hs.table k (by omega) g (by simp [hg])
  simpa [Rte.segment, hg] using hwf

/-- Entering a RUN segment leaves its length less the excess (R108, R112). -/
theorem enterSegment_rte_of_run (p : Plan) {k : Nat} (excess : Nat) {s : State} (h : (s.rte.segment k).kind = .run) :
    ∃ l, (enterSegment p k excess s).rte =
      { s.rte with
        index := k, cursor := .running, remaining := (s.rte.segment k).len * 10000 - excess, raw := 0, look := some l } := by
  simp only [enterSegment, h]
  exact ⟨_, rfl⟩

/-- Entering a HOLD segment leaves nothing to drive (R108). -/
theorem enterSegment_rte_of_hold (p : Plan) {k : Nat} (excess : Nat) {s : State} (h : (s.rte.segment k).kind = .hold) :
    ∃ l, (enterSegment p k excess s).rte =
      { s.rte with index := k, cursor := .holding, remaining := 0, raw := 0, look := some l } := by
  simp only [enterSegment, h]
  exact ⟨_, rfl⟩

/-- A segment entered is a place for the cursor, where the excess is shorter than any RUN segment (R108, R112). -/
theorem enterSegment_sound {p : Plan} {k excess : Nat} {s : State} (hs : s.rte.Stored) (hd : s.rte.Drives p)
    (hfirst : p.first ≤ k) (hlast : k ≤ p.last) (hexcess : excess < 10000) :
    (enterSegment p k excess s).rte.Sound := by
  cases hkind : (s.rte.segment k).kind with
  | run =>
    obtain ⟨hrun, -⟩ := hd.segment_wf hs hfirst hlast
    obtain ⟨hlen, -⟩ := hrun hkind
    obtain ⟨l, hentered⟩ := enterSegment_rte_of_run p excess hkind
    rw [hentered]
    exact ⟨⟨hs.carry, hs.trim, hs.table⟩,
      .inPlan p ⟨hd.plan, hd.wf, hd.loaded⟩ hfirst hlast
        (.inl ⟨rfl, hkind, Nat.le_sub_of_add_le (by omega), Nat.sub_le _ _⟩) rfl⟩
  | hold =>
    obtain ⟨l, hentered⟩ := enterSegment_rte_of_hold p excess hkind
    rw [hentered]
    exact ⟨⟨hs.carry, hs.trim, hs.table⟩,
      .inPlan p ⟨hd.plan, hd.wf, hd.loaded⟩ hfirst hlast (.inr ⟨rfl, hkind, rfl⟩) rfl⟩

/-- The end of a plan is a place for the cursor (R115, R117). -/
theorem endPlan_sound {p : Plan} (action : EndAction) (laps : Nat) {s : State} (hs : s.rte.Stored)
    (hd : s.rte.Drives p) : (endPlan action laps s).rte.Sound :=
  ⟨⟨hs.carry, hs.trim, hs.table⟩, .done p rfl hd.plan hd.wf rfl⟩

/-- The next segment of a plan lies in its range (R114). -/
theorem nextIndex_inRange {p : Plan} {dir : Dir} {k k' : Nat} (h : nextIndex p dir k = some k') (hfirst : p.first ≤ k)
    (hlast : k ≤ p.last) : p.first ≤ k' ∧ k' ≤ p.last := by
  cases dir <;> simp only [nextIndex, Option.ite_none_right_eq_some, Option.some.injEq] at h <;> omega

/-- The neighbour entered at a TURN lies in the plan's range (R116). -/
theorem turnIndex_inRange {p : Plan} (h : p.Wf) (dir : Dir) : p.first ≤ turnIndex p dir ∧ turnIndex p dir ≤ p.last := by
  obtain ⟨hrange, -⟩ := h
  unfold turnIndex
  split
  · omega
  · cases dir <;> dsimp only <;> omega

/-- An end action leaves the cursor in a place (R115 to R117). -/
theorem applyEndAction_sound {p : Plan} {excess : Nat} {s : State} (hs : s.rte.Stored) (hd : s.rte.Drives p)
    (hexcess : excess < 10000) : (applyEndAction p excess s).rte.Sound := by
  obtain ⟨-, -, -, -, hwrapFirst, hwrapLast⟩ := hd.wf
  unfold applyEndAction
  cases p.endAction with
  | stop => exact endPlan_sound _ _ hs hd
  | turn =>
    obtain ⟨hfirst, hlast⟩ := turnIndex_inRange hd.wf s.rte.dir
    exact enterSegment_sound ⟨hs.carry, hs.trim, hs.table⟩ ⟨hd.plan, hd.wf, hd.loaded⟩ hfirst hlast hexcess
  | wrap =>
    dsimp only
    split
    · exact enterSegment_sound hs hd hwrapFirst hwrapLast hexcess
    · split
      · exact endPlan_sound _ _ hs hd
      · exact enterSegment_sound ⟨hs.carry, hs.trim, hs.table⟩ ⟨hd.plan, hd.wf, hd.loaded⟩ hwrapFirst hwrapLast hexcess

/-- Moving on from a segment of the plan leaves the cursor in a place (R112, R118). -/
theorem moveOn_sound {p : Plan} {excess : Nat} {s : State} (hs : s.rte.Stored) (hd : s.rte.Drives p)
    (hfirst : p.first ≤ s.rte.index) (hlast : s.rte.index ≤ p.last) (hexcess : excess < 10000) :
    (moveOn p excess s).rte.Sound := by
  unfold moveOn
  split
  · rename_i k hnext
    obtain ⟨hfirst', hlast'⟩ := nextIndex_inRange hnext hfirst hlast
    exact enterSegment_sound hs hd hfirst' hlast' hexcess
  · exact applyEndAction_sound hs hd hexcess

/-! ## Taking a result (R109 to R112) -/

/-- R112, R145: one result moves the part by at most 3533 mm. -/
theorem odometryDistance_le {r : Rte} (hs : r.Stored) {x : ResultRecord} (hx : x.Bounded) :
    odometryDistance r x.v x.dt ≤ 3533 := by
  obtain ⟨hv, hdt⟩ := hx
  have hpath : x.v * x.dt ≤ 1200 * 100 := Nat.mul_le_mul hv hdt
  have htrimmed : x.v * x.dt * r.trim ≤ 1200 * 100 * 4341 := Nat.mul_le_mul hpath hs.trim.2
  have hcarry := hs.carry
  unfold odometryDistance odometryNumerator
  omega

/-- A RUNNING cursor that advances stays in its segment with at least 1 mm left, or moves on with what is over (R111, R112). -/
theorem advanceCursor_sound (v dt : Nat) {d : Nat} {s : State} (h : s.rte.Sound) (hc : s.rte.cursor = .running)
    (hd : d ≤ 3533) : (advanceCursor v dt d s).rte.Sound := by
  obtain ⟨p, hdrives, hfirst, hlast, ⟨-, hkind, hlow, hhigh⟩ | ⟨hhold, -⟩, hlook⟩ :=
    h.placed.of_inPlan (by rw [hc]; rfl)
  · unfold advanceCursor
    dsimp only
    split
    · rename_i q hq
      obtain rfl : p = q := Option.some.inj (hdrives.plan.symm.trans hq)
      split
      · exact moveOn_sound ⟨h.stored.carry, h.stored.trim, h.stored.table⟩
          ⟨hdrives.plan, hdrives.wf, hdrives.loaded⟩ hfirst hlast (by omega)
      · rename_i hleft
        exact ⟨⟨h.stored.carry, h.stored.trim, h.stored.table⟩,
          .inPlan p ⟨hdrives.plan, hdrives.wf, hdrives.loaded⟩ hfirst hlast
            (.inl ⟨hc, hkind, Nat.le_sub_of_add_le (by omega), (Nat.sub_le _ _).trans hhigh⟩)
            (Option.isSome_map.trans hlook)⟩
    · rename_i hnone
      exact absurd (hdrives.plan.symm.trans hnone) (Option.some_ne_none p)
  · rw [hc] at hhold; cases hhold

/-- A new carry keeps the cursor's place. -/
theorem Rte.Placed.with_carry {r : Rte} (h : r.Placed) (c : Nat) : { r with carry := c }.Placed := by
  cases h with
  | idle cursor plan look => exact .idle cursor plan look
  | done p cursor plan wf look => exact .done p cursor plan wf look
  | inPlan p drives first last onSegment look =>
    exact .inPlan p ⟨drives.plan, drives.wf, drives.loaded⟩ first last onSegment look

/-- R109, R110: the carry stays below its unit, and the cursor in a place. -/
theorem rteTakes_sound {x : ResultRecord} {s : State} (h : s.rte.Sound) (hx : x.Bounded) : (rteTakes x s).rte.Sound := by
  have hcarried : { s.rte with carry := odometryNumerator s.rte x.v x.dt % 147456 }.Sound :=
    ⟨⟨Nat.mod_lt _ (by decide), h.stored.trim, h.stored.table⟩, h.placed.with_carry _⟩
  unfold rteTakes
  dsimp only
  split
  · rename_i hrunning
    exact advanceCursor_sound _ _ hcarried hrunning (odometryDistance_le h.stored hx)
  all_goals exact hcarried

/-- RTE passes on the distance of the record it takes, whatever its cursor does (R109). -/
theorem rteTakes_kmIn (x : ResultRecord) (s : State) :
    (rteTakes x s).mail.kmIn = s.mail.kmIn ++ [odometryDistance s.rte x.v x.dt] := by
  unfold rteTakes
  dsimp only
  split <;> simp

/-- RTE's taking of a record keeps the invariant (R109 to R112). -/
theorem rteTakesNext_routeInv {s : State} (h : RouteInv s) : RouteInv (rteTakesNext s) := by
  unfold rteTakesNext
  split
  · exact h
  · rename_i x rest hin
    obtain ⟨hx, hrest⟩ := List.forall_mem_cons.mp (hin ▸ h.flow.records)
    refine .of_sound (rteTakes_sound h.sound hx) ⟨?_, ?_, ?_⟩
    · simpa using hrest
    · rw [rteTakes_kmIn]
      exact List.forall_mem_append.mpr ⟨h.distances, by simpa using odometryDistance_le h.stored hx⟩
    · simpa using h.km

/-! ## Requests that write the table or arm a plan (R105 to R107) -/

/-- R105, R106: a record that passes the check is well formed as it is stored. -/
theorem segmentAt_wf {p : List Byte} {k : Nat} {g : Segment} (h : segmentAt p k = some g) : g.Wf := by
  unfold segmentAt at h
  dsimp only at h
  split at h
  · cases h
  · split at h
    · rename_i hchecked
      split at h
      · split at h
        · rename_i hlen
          cases h
          exact ⟨fun _ => hlen, nofun, hchecked⟩
        · cases h
      · split at h
        · cases h
          exact ⟨nofun, fun _ => rfl, hchecked⟩
        · cases h
    · cases h

theorem segmentsOf_wf {p : List Byte} {count : Nat} : ∀ x ∈ segmentsOf p count, ∀ g ∈ x, g.Wf := by
  intro x hx g hg
  obtain ⟨k, -, rfl⟩ := List.mem_map.mp hx
  exact segmentAt_wf hg

/-- Slots outside the range written keep what they hold. -/
theorem writeSegments_outside {l : List (Option Segment)} {j : Nat} (t : Vector (Option Segment) 64) {k : Nat}
    (h : j < k ∨ k + l.length ≤ j) : (writeSegments t k l)[j]? = t[j]? := by
  induction l generalizing t k with
  | nil => rfl
  | cons x rest ih =>
    rw [List.length_cons] at h
    have hne : k ≠ j := by omega
    rw [writeSegments, ih _ (by omega), Vector.getElem?_setIfInBounds_ne hne]

/-- A slot holds what it held or one of the records written. -/
theorem writeSegments_slot (l : List (Option Segment)) (t : Vector (Option Segment) 64) (k j : Nat) :
    (writeSegments t k l)[j]? = t[j]? ∨ ∃ x ∈ l, (writeSegments t k l)[j]? = some x := by
  induction l generalizing t k with
  | nil => exact .inl rfl
  | cons x rest ih =>
    rw [writeSegments]
    rcases ih (t.setIfInBounds k x) (k + 1) with hkept | ⟨y, hy, hwritten⟩
    · rw [hkept, Vector.getElem?_setIfInBounds]
      split
      · split
        · exact .inr ⟨x, List.mem_cons_self, rfl⟩
        · rename_i hslot hbound
          exact .inl (Vector.getElem?_eq_none (by omega)).symm
      · exact .inl rfl
    · exact .inr ⟨y, List.mem_cons_of_mem x hy, hwritten⟩

/-- R105 check 3: no slot to be written lies in the range of a driven plan. -/
theorem armedSlot_none {r : Rte} {first count : Nat} {p : Plan} (h : armedSlot r first count = none)
    (hc : r.cursor.inPlan = true) (hp : r.plan = some p) {j : Nat} (hfirst : p.first ≤ j) (hlast : j ≤ p.last) :
    j < first ∨ first + count ≤ j := by
  simp only [armedSlot, hp, hc, if_true, List.findSome?_eq_none_iff, List.mem_range, ite_eq_right_iff, reduceCtorEq] at h
  by_contra hinside
  exact h (j - first) (by omega) (by omega)

/-- A driven plan goes on where its slots have not changed. -/
theorem Rte.Placed.with_table {r : Rte} {t : Vector (Option Segment) 64} (h : r.Placed)
    (ht : ∀ p, r.Drives p → r.cursor.inPlan = true → ∀ j, p.first ≤ j → j ≤ p.last → t[j]? = r.table[j]?) :
    { r with table := t }.Placed := by
  cases h with
  | idle cursor plan look => exact .idle cursor plan look
  | done p cursor plan wf look => exact .done p cursor plan wf look
  | inPlan p drives first last onSegment look =>
    have hkept := ht p drives onSegment.inPlan
    have hloaded : ∀ k, p.first ≤ k → k ≤ p.last → { r with table := t }.loaded k = true := fun k hk hk' => by
      simpa only [Rte.loaded, hkept k hk hk'] using drives.loaded k hk hk'
    have hsegment : { r with table := t }.segment r.index = r.segment r.index := by
      simp only [Rte.segment, hkept r.index first last]
    refine .inPlan p ⟨drives.plan, drives.wf, hloaded⟩ first last ?_ look
    unfold Rte.OnSegment
    rw [hsegment]
    exact onSegment

/-- An answer keeps the invariant. -/
theorem RouteInv.replied {s : State} (h : RouteInv s) (e : Byte) (st : Status) (d : Nat) : RouteInv (reply e st d s) :=
  .of_sound h.sound (h.flow.of_eq rfl rfl rfl)

/-- A change of RTE alone that is sound keeps the invariant. -/
theorem RouteInv.with_rte {s : State} (h : RouteInv s) {r : Rte} (hr : r.Sound) : RouteInv (s.setRte r) :=
  .of_sound hr (h.flow.of_eq rfl rfl rfl)

/-- ROUTE_LOAD keeps the invariant: what it writes is well formed, and lies outside a driven plan (R105, R106). -/
theorem routeLoadServe_routeInv (f : Frame) {s : State} (h : RouteInv s) : RouteInv (execRouteLoad.serve f s) := by
  unfold execRouteLoad.serve
  dsimp only
  split
  · exact h.replied _ _ _
  · split
    · exact h.replied _ _ _
    · split
      · exact h.replied _ _ _
      · rename_i harmed
        refine (h.with_rte ?_).replied _ _ _
        refine ⟨⟨h.carry, h.trim, fun k hk g hg => ?_⟩, h.placed.with_table ?_⟩
        · rcases writeSegments_slot (segmentsOf f.payload (byteAt f.payload 1)) s.rte.table (byteAt f.payload 0) k with
            hkept | ⟨x, hx, hwritten⟩
          · rw [hkept] at hg
            exact h.table k hk g hg
          · rw [hwritten] at hg
            exact segmentsOf_wf x hx g hg
        · intro p hd hc j hfirst hlast
          have houtside := armedSlot_none harmed hc hd.plan hfirst hlast
          exact writeSegments_outside _ (by simpa [segmentsOf] using houtside)

/-- R107 check 2: a plan that passes is well formed. -/
theorem planOf_wf {p : List Byte} {q : Plan} (h : planOf p = some q) : q.Wf := by
  unfold planOf at h
  dsimp only at h
  split at h
  · split at h
    · rename_i hrange
      obtain ⟨hfirstLast, hlast, hstart, hstart'⟩ := hrange
      split at h
      · split at h
        · rename_i hwrap
          cases h
          exact ⟨hfirstLast, hlast, hstart, hstart', hwrap⟩
        · cases h
      · cases h
        exact ⟨hfirstLast, hlast, hstart, hstart', le_refl _, hfirstLast⟩
    · cases h
  · cases h

/-- R107 check 3: without an unloaded slot every slot of the range is loaded. -/
theorem lowestUnloaded_none {r : Rte} {first last : Nat} (h : lowestUnloaded r first last = none) {k : Nat}
    (hfirst : first ≤ k) (hlast : k ≤ last) : r.loaded k = true := by
  simp only [lowestUnloaded, List.findSome?_eq_none_iff, List.mem_range, ite_eq_left_iff, reduceCtorEq, imp_false,
    not_not] at h
  simpa [Nat.add_sub_cancel' hfirst] using h (k - first) (by omega)

/-- Entering a segment of a driven plan keeps what is on its way. -/
theorem RouteInv.entered {s t : State} (h : RouteInv s) {p : Plan} {k : Nat} (hs : t.rte.Stored) (hd : t.rte.Drives p)
    (hfirst : p.first ≤ k) (hlast : k ≤ p.last) (hin : t.mail.rteIn = s.mail.rteIn) (hkm : t.mail.kmIn = s.mail.kmIn)
    (hacc : t.wru.kmAcc = s.wru.kmAcc) : RouteInv (enterSegment p k 0 t) :=
  .of_sound (enterSegment_sound hs hd hfirst hlast (by decide))
    (h.flow.of_eq (by simp [hin]) (by simp [hkm]) (by simp [hacc]))

/-- ROUTE_ARM keeps the invariant: it drives a well-formed plan whose slots are loaded (R107). -/
theorem routeArmServe_routeInv (f : Frame) {s : State} (h : RouteInv s) : RouteInv (execRouteArm.serve f s) := by
  unfold execRouteArm.serve
  split
  · exact h.replied _ _ _
  · split
    · exact h.replied _ _ _
    · rename_i p hplan
      split
      · exact h.replied _ _ _
      · rename_i hloaded
        have hwf := planOf_wf hplan
        obtain ⟨-, -, hstart, hstart', -⟩ := id hwf
        refine (h.entered ?_ ?_ hstart hstart' ?_ ?_ ?_).replied _ _ _
        · exact ⟨h.carry, h.trim, h.table⟩
        · exact ⟨rfl, hwf, fun k => lowestUnloaded_none hloaded⟩
        all_goals rfl

/-! ## Requests that move the cursor (R118 to R122) -/

/-- ROUTE_DEPART keeps the invariant (R118). -/
theorem routeDepartServe_routeInv (f : Frame) {s : State} (h : RouteInv s) : RouteInv (execRouteDepart.serve f s) := by
  unfold execRouteDepart.serve
  split
  · rename_i p hholding hplan
    obtain ⟨q, hd, hfirst, hlast, -⟩ := h.placed.of_inPlan (by rw [hholding]; rfl)
    obtain rfl : q = p := Option.some.inj (hd.plan.symm.trans hplan)
    refine RouteInv.replied (.of_sound (moveOn_sound h.stored hd hfirst hlast (by decide)) ?_) _ _ _
    exact h.flow.of_eq (by simp) (by simp) (by simp)
  · exact h.replied _ _ _

/-- The trim test changes the trim at most, and keeps it in its range (R120). -/
theorem trimTest_rte (p : Plan) (k : Nat) (flag : Bool) {s : State} (hs : s.rte.Stored) :
    ∃ trim, (trimTest p k flag s).1.rte = { s.rte with trim } ∧ 3851 ≤ trim ∧ trim ≤ 4341 := by
  unfold trimTest
  split
  · split
    · exact ⟨s.rte.trim, rfl, hs.trim⟩
    · split
      · exact ⟨s.rte.trim, rfl, hs.trim⟩
      · rename_i hrange
        exact ⟨trimNew s.rte, rfl, by omega⟩
  · exact ⟨s.rte.trim, rfl, hs.trim⟩

/-- ROUTE_SYNC keeps the invariant: the trim stays in its range, and the segment entered lies in the plan (R119, R120). -/
theorem routeSyncServe_routeInv (f : Frame) {s : State} (h : RouteInv s) : RouteInv (execRouteSync.serve f s) := by
  unfold execRouteSync.serve
  dsimp only
  split
  · rename_i p hc hplan
    split
    · exact h.replied _ _ _
    · rename_i hrange
      have hd := h.placed.drives hc hplan
      obtain ⟨trim, htested, htrim⟩ := trimTest_rte p (byteAt f.payload 0) (byteAt f.payload 1 != 0) h.stored
      refine (h.entered (k := byteAt f.payload 0) ?_ ?_ (by omega) (by omega) (by simp) (by simp) (by simp)).replied _ _ _
      · rw [htested]; exact ⟨h.carry, htrim, h.table⟩
      · rw [htested]; exact ⟨hd.plan, hd.wf, hd.loaded⟩
  · exact h.replied _ _ _

/-- ROUTE_CLEAR keeps the invariant: the cursor is IDLE (R122). -/
theorem routeClearServe_routeInv (f : Frame) {s : State} (h : RouteInv s) : RouteInv (execRouteClear.serve f s) := by
  unfold execRouteClear.serve
  refine (h.with_rte ?_).replied _ _ _
  exact ⟨⟨h.carry, h.trim, h.table⟩, .idle rfl rfl rfl⟩

/-- RTE's taking of START keeps the cursor's place: the lookahead is recomputed (R123). -/
theorem rteStart_sound {s : State} (h : s.rte.Sound) : (rteStart s).rte.Sound := by
  unfold rteStart
  split
  · rename_i p hc hplan
    obtain ⟨q, hd, hfirst, hlast, hon, -⟩ := h.placed.of_inPlan hc
    exact ⟨⟨h.stored.carry, h.stored.trim, h.stored.table⟩,
      .inPlan q ⟨hd.plan, hd.wf, hd.loaded⟩ hfirst hlast hon rfl⟩
  · exact h

/-- START keeps the invariant (R123, R157). -/
theorem startServe_routeInv (f : Frame) {s : State} (h : RouteInv s) : RouteInv (execStart.serve f s) := by
  unfold execStart.serve
  split
  · split
    · exact h.replied _ _ _
    · exact .of_sound (rteStart_sound h.sound) (h.flow.of_eq (by simp) (by simp) (by simp))
  all_goals exact h.replied _ _ _

/-! ## A record published (R2, R4, R26) -/

theorem intervalMs_le (now : PartTime) (last : Option PartTime) : intervalMs now last ≤ 100 := by
  unfold intervalMs
  split
  · exact Nat.zero_le _
  · exact Nat.min_le_left _ _

/-- A dispatch sends RTE one record, within the bounds of R2 and R4. -/
theorem dispatch_rteIn (p : List Byte) (s : State) :
    ∃ x : ResultRecord, x.Bounded ∧ (dispatch (demandFields p) s).mail.rteIn = s.mail.rteIn ++ [x] := by
  refine ⟨resultRecord (demandFields p)
    (envLookup s.cal (s.mdc.straps.mw == 3) (demandFields p).temp (demandFields p).soc s.env).1.stress
    (intervalMs s.now s.dsp.lastDemand) (decideShares (inputAtTake (demandFields p) s)), ?_, ?_⟩
  · exact ⟨Nat.min_le_left _ _, intervalMs_le _ _⟩
  · simp [dispatch, publish, inputAtTake]

/-- DEMAND keeps the invariant. -/
theorem demandServe_routeInv (f : Frame) {s : State} (h : RouteInv s) : RouteInv (execDemand.serve f s) := by
  unfold execDemand.serve
  split
  · obtain ⟨x, hx, hin⟩ := dispatch_rteIn f.payload s
    refine .of_sound (by simpa using h.sound) ⟨?_, by simpa using h.distances, by simpa using h.km⟩
    rw [hin]
    exact List.forall_mem_append.mpr ⟨h.flow.records, by simpa using hx⟩
  all_goals exact .of_sound h.sound (h.flow.of_eq rfl rfl rfl)

/-! ## The km accumulator (R145) -/

@[simp] theorem setLevel_kmAcc (c : Nat) (l : Level) (s : State) : (setLevel c l s).wru.kmAcc = s.wru.kmAcc := by
  unfold setLevel
  dsimp only
  split <;> rfl

@[simp] theorem foldl_regrade_kmAcc (l : List Nat) (s : State) :
    (l.foldl (fun s c => regrade c s) s).wru.kmAcc = s.wru.kmAcc := by
  induction l generalizing s with
  | nil => rfl
  | cons c rest ih => rw [List.foldl_cons, ih, regrade, setLevel_kmAcc]

@[simp] theorem Wru.enterPattern_kmAcc (w : Wru) (p : LampPattern) (now : PartTime) :
    (w.enterPattern p now).kmAcc = w.kmAcc := by
  cases p <;> rfl

@[simp] theorem setLamp_kmAcc (s : State) : (setLamp s).wru.kmAcc = s.wru.kmAcc := by
  unfold setLamp
  dsimp only
  split
  · rfl
  · exact Wru.enterPattern_kmAcc _ _ _

@[simp] theorem putCounter_kmAcc (c : Nat) (k : Counter) (u : Nat) (s : State) :
    (putCounter c k u s).wru.kmAcc = s.wru.kmAcc := by
  unfold putCounter regradeSeeded regrade
  dsimp only
  split
  · rfl
  · split
    · exact setLevel_kmAcc _ _ _
    · rfl

@[simp] theorem feedResidue_kmAcc (c unit inc : Nat) (s : State) : (feedResidue c unit inc s).wru.kmAcc = s.wru.kmAcc := by
  unfold feedResidue
  dsimp only
  split
  · rfl
  · exact putCounter_kmAcc _ _ _ _

@[simp] theorem feedAll_kmAcc (l : List (Nat × Nat × Nat)) (s : State) :
    (l.foldl (fun s i => feedResidue i.1 i.2.1 i.2.2 s) s).wru.kmAcc = s.wru.kmAcc := by
  induction l generalizing s with
  | nil => rfl
  | cons i rest ih => rw [List.foldl_cons, ih, feedResidue_kmAcc]

@[simp] theorem wruTakesIncrement_kmAcc (c n : Nat) (s : State) : (wruTakesIncrement c n s).wru.kmAcc = s.wru.kmAcc := by
  unfold wruTakesIncrement feedCount
  dsimp only
  split <;> simp

@[simp] theorem calWriteEffect_kmAcc (id : Nat) (s : State) : (calWriteEffect id s).wru.kmAcc = s.wru.kmAcc := by
  unfold calWriteEffect clampHeat gradeThreshold regrade
  (repeat' split) <;> simp

@[simp] theorem gradeAll_kmAcc (s : State) : (gradeAll s).wru.kmAcc = s.wru.kmAcc := by
  rw [gradeAll, foldl_regrade_kmAcc]

@[simp] theorem Wru.restarted_kmAcc (w : Wru) : w.restarted.kmAcc = w.kmAcc := by
  unfold Wru.restarted
  split <;> rfl

theorem wearSeedServe_kmAcc (f : Frame) (s : State) : (execWearSeed.serve f s).wru.kmAcc = s.wru.kmAcc := by
  unfold execWearSeed.serve
  split
  · rfl
  · simp [Wru.addSeeds]

theorem wearServiceServe_kmAcc (f : Frame) (s : State) : (execWearService.serve f s).wru.kmAcc = s.wru.kmAcc := by
  unfold execWearService.serve
  dsimp only
  (repeat' split) <;> simp [Wru.serviced, Wru.setCounter]

theorem calWriteServe_kmAcc (f : Frame) (s : State) : (execCalWrite.serve f s).wru.kmAcc = s.wru.kmAcc := by
  unfold execCalWrite.serve
  dsimp only
  (repeat' split) <;> simp

/-- R145: a distance passed on takes the accumulator past its bound by less than the bound. -/
theorem wruTakesDistance_kmAcc_lt {d : Nat} {s : State} (hd : d ≤ 3533) (h : s.wru.kmAcc < 1000000) :
    (wruTakesDistance d s).wru.kmAcc < 1000000 := by
  unfold wruTakesDistance
  dsimp only
  split
  · exact Nat.sub_lt_left_of_lt_add ‹_› (by omega)
  · exact Nat.lt_of_not_le ‹_›

/-- WRU's taking of a distance keeps the invariant. -/
theorem wruTakesNextDistance_routeInv {s : State} (h : RouteInv s) : RouteInv (wruTakesNextDistance s) := by
  unfold wruTakesNextDistance
  split
  · exact h
  · rename_i d rest hin
    obtain ⟨hd, hrest⟩ := List.forall_mem_cons.mp (hin ▸ h.distances)
    exact .of_sound (by simpa using h.sound)
      ⟨by simpa using h.flow.records, by simpa using hrest, wruTakesDistance_kmAcc_lt hd h.km⟩

/-! ## The commands that leave all of it alone -/

/-- What waits for RTE, and what RTE has sent to WRU. -/
def State.routeMail (s : State) : List ResultRecord × List Nat := (s.mail.rteIn, s.mail.kmIn)

/-- The commands that can change what the invariant speaks of. -/
def changesRoute : Instr → Bool
  | .powerOn _ | .resetn _ | .demand | .rteResult | .kmDistance | .start | .routeLoad | .routeArm | .routeDepart
  | .routeSync | .routeClear | .transmitEnd => true
  | _ => false

/-- Every other request leaves what waits for RTE and WRU's distances as they were. -/
theorem routeMail_kept_request (i : Instr) (hi : changesRoute i = false) (hr : isRequest i = true) (s t : State)
    (h : exec i s = .next t) : t.routeMail = s.routeMail := by
  cases i <;> first | (cases hi; done) | (cases hr; done) | skip
  case unknownType => exact execUnknown_keeps State.routeMail _ (.inl rfl) s t h fun _ _ => rfl
  case queryUnknownTopic => exact execUnknown_keeps State.routeMail _ (.inr rfl) s t h fun _ _ => rfl
  case queryStatus | queryWearA | queryWearB | queryPredict | queryRoute | queryStartsA | queryStartsB | queryMap =>
    cases h
    exact takeQuery_keeps State.routeMail _ _ _ _ s (fun _ _ => rfl) (by intro s; simp [State.routeMail])
  all_goals
    cases h
    refine takeRequest_keeps State.routeMail _ _ _ s (fun _ _ => rfl) fun f s => ?_
    simp only [execHalt.serve, execRestart.serve, execFaultClear.serve, execCalWrite.serve, execCalRead.serve,
      execMapFlush.serve, execWearSeed.serve, execWearService.serve]
    (repeat' split) <;> simp [State.routeMail]

/-- So does every other command. -/
theorem routeMail_kept (i : Instr) (hi : changesRoute i = false) (s t : State) (h : exec i s = .next t) :
    t.routeMail = s.routeMail := by
  by_cases hr : isRequest i = true
  · exact routeMail_kept_request i hi hr s t h
  cases i <;> first | (cases hi; done) | (exact absurd rfl hr) | skip
  all_goals
    simp only [exec, execImageReadEnd, execHeatInit, dspTakesLoadEnd, execWruLoadingGrade, wruTakesLoadEnd,
      execDemandTimerExpiry, execHeatUpdate, heatTakesNext, execEngResultEvaluation, engTakesNext,
      execCrankTimerExpiry, execPauseTimerExpiry, execWarmTimerExpiry, execStopHoldExpiry, execCooldownTimerExpiry,
      execWruResult, wruTakesNext, execEngineIncrement, wruTakesNextIncrement, execLampTimerExpiry, execFillSuccess,
      execCheckFailure, execFrameReceived, execGapTimerExpiry, execFramingFault, execLineBreak, execBreakWaitEnd,
      execMeasureStart, execMeasurementEnd, execStageAnswer, execStageNotice, execEventRaised,
      execCoalescingTimerExpiry, execCharacterReceived, execMeasureFirstRisingEdge, execMeasurementCountOverflow,
      stateTimerExpiry, execCrankTimerExpiry.act, execPauseTimerExpiry.act, execWarmTimerExpiry.act,
      Host.Outcome.next.injEq] at h
    subst h
    (repeat' split) <;> simp [State.routeMail, foldl_raise, State.raising]

/-- Every other command leaves the km accumulator as it was: what WRU does with counters, lamp and levels does not touch it. -/
theorem kmAcc_kept (i : Instr) (hi : changesRoute i = false) (s t : State) (h : exec i s = .next t) :
    t.wru.kmAcc = s.wru.kmAcc := by
  by_cases hw : changesWru i = false
  · rw [wru_kept i hw s t h]
  cases i
  case calWrite => cases h; exact takeRequest_keeps (fun s => s.wru.kmAcc) _ _ _ s (fun _ _ => rfl) calWriteServe_kmAcc
  case wearSeed => cases h; exact takeRequest_keeps (fun s => s.wru.kmAcc) _ _ _ s (fun _ _ => rfl) wearSeedServe_kmAcc
  case wearService => cases h; exact takeRequest_keeps (fun s => s.wru.kmAcc) _ _ _ s (fun _ _ => rfl) wearServiceServe_kmAcc
  case wruLoadingGrade | wruResult | engineIncrement | lampTimerExpiry =>
    cases h
    simp only [wruTakesLoadEnd, wruTakesNext, wruTakes, wruTakesNextIncrement]
    (repeat' split) <;> simp
  case powerOn | resetn | kmDistance | transmitEnd => cases hi
  all_goals exact absurd rfl hw

/-- Every other command keeps the invariant. -/
theorem RouteInv.kept {s t : State} (h : RouteInv s) (i : Instr) (hi : changesRoute i = false) (he : exec i s = .next t) :
    RouteInv t := by
  obtain ⟨hin, hkm⟩ := Prod.mk.inj (routeMail_kept i hi s t he)
  have hrte : t.rte = s.rte := rte_kept i (by cases i <;> first | rfl | cases hi) s t he
  exact .of_sound (hrte ▸ h.sound) (h.flow.of_eq hin hkm (kmAcc_kept i hi s t he))

/-! ## The resets and RESTART (R150, R161) -/

theorem Rte.reset_sound : Rte.reset.Sound := by
  refine ⟨⟨by decide, by decide, fun k hk g hg => ?_⟩, .idle rfl rfl rfl⟩
  simp [Rte.reset, hk] at hg

/-- Entering LOADING leaves alone what the invariant speaks of. -/
theorem enterLoading_routeInv {s : State} (h : RouteInv s) : RouteInv (enterLoading s) :=
  .of_sound (by simpa using h.sound) (h.flow.of_eq (by simp) (by simp) (by simp))

/-- The values of a power-on and a RESETN meet the invariant, whatever was before. -/
theorem resetValues_routeInv (straps : Straps) (s : State) : RouteInv (resetValues straps s) :=
  .of_sound Rte.reset_sound ⟨List.forall_mem_nil _, List.forall_mem_nil _, Nat.zero_lt_succ _⟩

theorem iterate_routeInv {f : State → State} (hf : ∀ s, RouteInv s → RouteInv (f s)) {s : State} (h : RouteInv s)
    (n : Nat) : RouteInv (f^[n] s) :=
  Function.Iterate.rec RouteInv h hf n

/-- What waits before a RESTART is taken with the invariant kept. -/
theorem takeAllWaiting_routeInv {s : State} (h : RouteInv s) : RouteInv (takeAllWaiting s) := by
  have hloaded : RouteInv (wruTakesLoadEnd (dspTakesLoadEnd s)) :=
    (h.kept .heatInit rfl rfl).kept .wruLoadingGrade rfl rfl
  have hheat : ∀ s, RouteInv s → RouteInv (heatTakesNext s) := fun _ h => h.kept .heatUpdate rfl rfl
  have heng : ∀ s, RouteInv s → RouteInv (engTakesNext s) := fun _ h => h.kept .engResultEvaluation rfl rfl
  have hwru : ∀ s, RouteInv s → RouteInv (wruTakesNext s) := fun _ h => h.kept .wruResult rfl rfl
  have hinc : ∀ s, RouteInv s → RouteInv (wruTakesNextIncrement s) := fun _ h => h.kept .engineIncrement rfl rfl
  unfold takeAllWaiting
  dsimp only
  apply iterate_routeInv fun _ => wruTakesNextDistance_routeInv
  apply iterate_routeInv hinc
  apply iterate_routeInv hwru
  apply iterate_routeInv heng
  apply iterate_routeInv fun _ => rteTakesNext_routeInv
  apply iterate_routeInv hheat
  exact hloaded

theorem countHotStop_routeInv {s : State} (h : RouteInv s) : RouteInv (countHotStop s) := by
  unfold countHotStop
  split
  · exact .of_sound (by simpa using h.sound) (h.flow.of_eq (by simp) (by simp) (by simp))
  · exact h

/-- A RESTART keeps table, trim and accumulator, and leaves the cursor IDLE with nothing on its way (R161, Table 5-2). -/
theorem restartEffect_routeInv {s : State} (h : RouteInv s) : RouteInv (restartEffect s) := by
  have htaken := countHotStop_routeInv (takeAllWaiting_routeInv h)
  unfold restartEffect
  dsimp only
  generalize countHotStop (takeAllWaiting s) = taken at htaken ⊢
  refine enterLoading_routeInv (.of_sound ?_ ⟨List.forall_mem_nil _, List.forall_mem_nil _, ?_⟩)
  · exact ⟨⟨Nat.zero_lt_succ _, htaken.trim, htaken.table⟩, .idle rfl rfl rfl⟩
  · exact (Wru.restarted_kmAcc _).trans_lt htaken.km

theorem transmitEnd_routeInv {s t : State} (h : RouteInv s) (he : exec .transmitEnd s = .next t) : RouteInv t := by
  simp only [exec, execTransmitEnd, Host.Outcome.next.injEq] at he
  subst he
  split
  · exact h
  · split
    · exact restartEffect_routeInv h
    · exact .of_sound h.sound (h.flow.of_eq rfl rfl rfl)

/-! ## Every command and every step -/

/-- A request keeps the invariant where its service does. -/
theorem takeRequest_routeInv {s : State} (type : Byte) (ready : Frame → State → Bool) {serve : Frame → State → State}
    (hserve : ∀ f s, RouteInv s → RouteInv (serve f s)) (h : RouteInv s) : RouteInv (takeRequest type ready serve s) :=
  takeRequest_preserves type ready (fun _ _ h => .of_sound h.sound (h.flow.of_eq rfl rfl rfl)) hserve h

/-- Every command keeps the invariant. -/
theorem exec_routeInv (i : Instr) {s t : State} (h : RouteInv s) (he : exec i s = .next t) : RouteInv t := by
  by_cases hi : changesRoute i = false
  · exact h.kept i hi he
  cases i
  case powerOn straps | resetn straps => cases he; exact enterLoading_routeInv (resetValues_routeInv straps s)
  case demand => cases he; exact takeRequest_routeInv _ _ (fun f _ => demandServe_routeInv f) h
  case rteResult => cases he; exact rteTakesNext_routeInv h
  case kmDistance => cases he; exact wruTakesNextDistance_routeInv h
  case start => cases he; exact takeRequest_routeInv _ _ (fun f _ => startServe_routeInv f) h
  case routeLoad => cases he; exact takeRequest_routeInv _ _ (fun f _ => routeLoadServe_routeInv f) h
  case routeArm => cases he; exact takeRequest_routeInv _ _ (fun f _ => routeArmServe_routeInv f) h
  case routeDepart => cases he; exact takeRequest_routeInv _ _ (fun f _ => routeDepartServe_routeInv f) h
  case routeSync => cases he; exact takeRequest_routeInv _ _ (fun f _ => routeSyncServe_routeInv f) h
  case routeClear => cases he; exact takeRequest_routeInv _ _ (fun f _ => routeClearServe_routeInv f) h
  case transmitEnd => exact transmitEnd_routeInv h he
  all_goals exact absurd rfl hi

/-- The queue of commands is none of what the invariant speaks of. -/
theorem RouteInv.with_pending {s : State} (h : RouteInv s) (l : List Instr) : RouteInv { s with pending := l } :=
  .of_sound h.sound (h.flow.of_eq rfl rfl rfl)

/-- Settles O56: every command keeps the invariant, and a millisecond touches none of what it speaks of. -/
theorem routeKept : Obligations.RouteKept := by
  intro s t h he
  unfold step at he
  split at he
  · cases he
    exact .of_sound h.sound (h.flow.of_eq rfl rfl rfl)
  · exact exec_routeInv _ (h.with_pending _) he

end Sys2Proof.Machine
end

section
/-!
PROOFS. The Wear Unit's invariant (R135, R139, R140, R143): what a grade and a lamp pattern are, what each operation of WRU keeps,
which commands can touch what the invariant speaks of, and that every step keeps it.
-/
namespace Sys2Proof.Machine

/-! ## The grade of a value (R139) -/

theorem reachedThreshold_iff {value threshold : Nat} :
    reachedThreshold value threshold = true ↔ threshold ≠ 0 ∧ threshold ≤ value := by
  simp [reachedThreshold]

/-- The highest threshold that is reached gives the level. -/
theorem gradeLevel_iff (value adv svc lim : Nat) :
    (gradeLevel value adv svc lim = .limit ↔ lim ≠ 0 ∧ lim ≤ value)
      ∧ (gradeLevel value adv svc lim = .service ↔ ¬(lim ≠ 0 ∧ lim ≤ value) ∧ svc ≠ 0 ∧ svc ≤ value)
      ∧ (gradeLevel value adv svc lim = .advisory ↔
          ¬(lim ≠ 0 ∧ lim ≤ value) ∧ ¬(svc ≠ 0 ∧ svc ≤ value) ∧ adv ≠ 0 ∧ adv ≤ value) := by
  simp only [← reachedThreshold_iff, gradeLevel]
  by_cases hlim : reachedThreshold value lim = true
  · simp [hlim]
  by_cases hsvc : reachedThreshold value svc = true
  · simp [hlim, hsvc]
  by_cases hadv : reachedThreshold value adv = true <;> simp [hlim, hsvc, hadv]

/-- No threshold is reached at 0. -/
theorem gradeOf_zero (cal : Cal) (c : Nat) : gradeOf cal c 0 = .none := by
  simp [gradeOf, gradeLevel, reachedThreshold]

/-- A write of a slot that holds no threshold of a counter leaves the counter's grade alone. -/
theorem gradeOf_set_other (cal : Cal) {id c : Nat} (v : Int) (value : Nat) (h : id < 96 + 3 * c ∨ 98 + 3 * c < id) :
    gradeOf (cal.set id v) c value = gradeOf cal c value := by
  have hthreshold : ∀ l < 3, (cal.set id v).threshold c l = cal.threshold c l := fun l hl => by
    unfold Cal.threshold Cal.nat
    rw [Cal.get_set_other _ _ _ _ (by omega)]
  simp only [gradeOf, hthreshold 0 (by decide), hthreshold 1 (by decide), hthreshold 2 (by decide)]

/-! ## The lamp pattern of a set of levels (Table 6-5) -/

theorem Wru.any_level_iff (w : Wru) (l : Level) :
    (w.counters.toList.any fun k => k.level == l) = true ↔ ∃ c < 8, (w.counter c).level = l := by
  rw [List.any_eq_true]
  constructor
  · rintro ⟨k, hk, hl⟩
    obtain ⟨c, hc, rfl⟩ := List.getElem_of_mem hk
    have hc8 : c < 8 := by simpa using hc
    exact ⟨c, hc8, by simpa [Wru.counter, hc8] using hl⟩
  · rintro ⟨c, hc, hl⟩
    exact ⟨w.counters[c], by simp, by simpa [Wru.counter, hc] using hl⟩

theorem lampPatternFor_unseeded {w : Wru} (h : w.seeded = false) : lampPatternFor w = .off := by
  simp [lampPatternFor, h]

theorem lampPatternFor_flash_iff (w : Wru) :
    lampPatternFor w = .flash ↔ w.seeded = true ∧ ∃ c < 8, (w.counter c).level = .limit := by
  rw [← w.any_level_iff]
  unfold lampPatternFor
  (repeat' split) <;> simp_all

theorem lampPatternFor_steady_iff (w : Wru) :
    lampPatternFor w = .steady ↔
      w.seeded = true ∧ (∃ c < 8, (w.counter c).level = .service) ∧ ∀ c < 8, (w.counter c).level ≠ .limit := by
  have hnone : (∀ c < 8, (w.counter c).level ≠ .limit) ↔ ¬∃ c < 8, (w.counter c).level = .limit := by
    simp only [not_exists, not_and, ne_eq]
  rw [hnone, ← w.any_level_iff, ← w.any_level_iff]
  unfold lampPatternFor
  (repeat' split) <;> simp_all

/-- The pattern depends on the seeded status and the levels only. -/
theorem lampPatternFor_congr {v w : Wru} (hs : v.seeded = w.seeded)
    (hl : ∀ c < 8, (v.counter c).level = (w.counter c).level) : lampPatternFor v = lampPatternFor w := by
  have hany (l : Level) :
      (v.counters.toList.any fun k => k.level == l) = w.counters.toList.any fun k => k.level == l := by
    rw [Bool.eq_iff_iff, v.any_level_iff, w.any_level_iff]
    exact exists_congr fun c => and_congr_right fun hc => by rw [hl c hc]
  simp only [lampPatternFor, hs, hany]

/-! ## The invariant, part by part -/

/-- What a counter with this carry unit holds besides its level (R133 to R135). -/
structure Counter.Sound (k : Counter) (unit : Nat) : Prop where
  residue : k.residue < unit
  value : k.value ≤ 4294967295
  saturated : k.saturated = true → k.value = 4294967295

/-- The level is none of it. -/
theorem Counter.Sound.with_level {k : Counter} {unit : Nat} (h : k.Sound unit) (l : Level) :
    ({ k with level := l } : Counter).Sound unit := ⟨h.residue, h.value, h.saturated⟩

/-- The counters without their levels, the tallies and the rings (R134, R135, R146). -/
structure Wru.Metered (w : Wru) : Prop where
  counters : ∀ c < 8, (w.counter c).Sound (residueUnit c)
  rings : ∀ c < 4, (w.kmRing c).length ≤ 16 ∧ w.kmTally c ≤ 65535

/-- The levels against a calibration set, with the end of LOADING waiting to be taken or not (R139 to R141). -/
structure Wru.Levelled (w : Wru) (cal : Cal) (waits : Bool) : Prop where
  unseeded : w.seeded = false → ∀ c < 8, (w.counter c).level = .none
  graded : w.seeded = true → waits = false → ∀ c < 8, (w.counter c).level = gradeOf cal c (w.counter c).value

/-- WLAMP and the lamp timer against the pattern shown (R143, R144). -/
structure Wru.LampDriven (w : Wru) : Prop where
  wlamp : w.wlamp = true ↔ w.pattern = .steady ∨ (w.pattern = .flash ∧ w.phase = .lit)
  timer : w.lampTimer.isSome = true ↔ w.pattern = .flash

/-- The invariant but for the pattern shown, which follows the levels at the end of each event (R142). -/
structure State.WearSound (s : State) : Prop where
  metered : s.wru.Metered
  levelled : s.wru.Levelled s.cal s.mail.loadEndWru
  driven : s.wru.LampDriven

/-- The pattern shown is that of Table 6-5. -/
def Wru.LampShown (w : Wru) : Prop := w.pattern = lampPatternFor w

theorem wearInv_iff {s : State} : WearInv s ↔ s.WearSound ∧ s.wru.LampShown :=
  ⟨fun h => ⟨⟨⟨fun c hc => ⟨h.residues c hc, h.values c hc, h.saturated c hc⟩, h.rings⟩, ⟨h.unseeded, h.graded⟩,
      ⟨h.lamp, h.timer⟩⟩, h.pattern⟩,
    fun ⟨h, hp⟩ =>
      { residues := fun c hc => (h.metered.counters c hc).residue
        values := fun c hc => (h.metered.counters c hc).value
        saturated := fun c hc => (h.metered.counters c hc).saturated
        unseeded := h.levelled.unseeded
        graded := h.levelled.graded
        rings := h.metered.rings
        pattern := hp
        lamp := h.driven.wlamp
        timer := h.driven.timer }⟩

theorem WearInv.sound {s : State} (h : WearInv s) : s.WearSound := (wearInv_iff.mp h).1

theorem WearInv.shown {s : State} (h : WearInv s) : s.wru.LampShown := (wearInv_iff.mp h).2

/-- Levels that are all graded are those of the thresholds, whether the end of LOADING waits or not. -/
theorem Wru.Levelled.of_graded {w : Wru} {cal : Cal} (hs : w.seeded = true)
    (h : ∀ c < 8, (w.counter c).level = gradeOf cal c (w.counter c).value) (waits : Bool) : w.Levelled cal waits :=
  ⟨fun hu => absurd (hs.symm.trans hu) (by decide), fun _ _ => h⟩

/-- While the end of LOADING waits, or UNSEEDED, the levels do not answer to the thresholds. -/
theorem Wru.Levelled.of_ungraded {w : Wru} {cal cal' : Cal} {waits waits' : Bool} (h : w.Levelled cal waits)
    (hu : waits' = true ∨ w.seeded = false) : w.Levelled cal' waits' :=
  ⟨h.unseeded, fun hs hw => by rcases hu with hu | hu <;> simp_all⟩

/-- The invariant holds in a state with the same Wear Unit whose levels are right for the state's own set. -/
theorem WearInv.of_levelled {s t : State} (h : WearInv s) (hw : t.wru = s.wru)
    (hl : s.wru.Levelled t.cal t.mail.loadEndWru) : WearInv t := by
  have hshown := h.shown
  rw [← hw] at hl hshown
  exact wearInv_iff.mpr ⟨⟨hw ▸ h.sound.metered, hl, hw ▸ h.sound.driven⟩, hshown⟩

/-- In particular where calibration set and end of LOADING are as they were. -/
theorem WearInv.of_wru_eq {s t : State} (h : WearInv s) (hw : t.wru = s.wru) (hcal : t.cal = s.cal)
    (hmail : t.mail.loadEndWru = s.mail.loadEndWru) : WearInv t :=
  h.of_levelled hw (by rw [hcal, hmail]; exact h.sound.levelled)

/-! ## The lamp set (R143) -/

section
variable (w : Wru) (p : LampPattern) (now : PartTime)

@[simp] theorem Wru.enterPattern_counters : (w.enterPattern p now).counters = w.counters := by cases p <;> rfl
@[simp] theorem Wru.enterPattern_tally : (w.enterPattern p now).tally = w.tally := by cases p <;> rfl
@[simp] theorem Wru.enterPattern_ring : (w.enterPattern p now).ring = w.ring := by cases p <;> rfl
@[simp] theorem Wru.enterPattern_seeded : (w.enterPattern p now).seeded = w.seeded := by cases p <;> rfl

/-- A pattern entered sets WLAMP and the timer as it asks, whatever they were. -/
theorem Wru.enterPattern_driven : (w.enterPattern p now).LampDriven := by
  cases p <;> constructor <;> simp [Wru.enterPattern]

end

/-- Setting the lamp leaves the lamp as it is, or enters a pattern. -/
theorem setLamp_wru_cases (s : State) :
    (setLamp s).wru = s.wru ∨ ∃ p, (setLamp s).wru = s.wru.enterPattern p s.now := by
  rw [setLamp_eq]
  split
  · exact .inl rfl
  · exact .inr ⟨_, rfl⟩

/-- What is right but for the lamp is right once the lamp is set. -/
theorem setLamp_wearInv {s : State} (h : s.WearSound) : WearInv (setLamp s) := by
  refine wearInv_iff.mpr ⟨?_, (setLamp_follows s).pattern⟩
  obtain ⟨hmetered, hlevelled, hdriven⟩ := h
  rcases setLamp_wru_cases s with e | ⟨p, e⟩
  · exact ⟨by rw [e]; exact hmetered, by simpa [e] using hlevelled, by rw [e]; exact hdriven⟩
  · refine ⟨?_, ?_, by rw [e]; exact Wru.enterPattern_driven _ _ _⟩
    · rw [e]
      exact ⟨by simpa [Wru.counter] using hmetered.counters, by simpa [Wru.kmRing, Wru.kmTally] using hmetered.rings⟩
    · rw [e]
      exact ⟨by simpa [Wru.counter] using hlevelled.unseeded, by simpa [Wru.counter] using hlevelled.graded⟩

/-! ## A counter replaced, a tally fed -/

theorem Wru.Metered.setCounter {w : Wru} (h : w.Metered) {c : Nat} {k : Counter} (hc : c < 8)
    (hk : k.Sound (residueUnit c)) : (w.setCounter c k).Metered := by
  refine ⟨fun d hd => ?_, h.rings⟩
  rw [Wru.counter_setCounter _ _ _ _ hc]
  split
  · subst d; exact hk
  · exact h.counters d hd

theorem Wru.Metered.addTally {w : Wru} (h : w.Metered) (c units : Nat) : (w.addTally c units).Metered := by
  refine ⟨h.counters, fun d hd => ⟨(h.rings d hd).1, ?_⟩⟩
  have htally := (h.rings d hd).2
  unfold Wru.kmTally at htally ⊢
  simp only [Wru.addTally, Vector.getElem?_setIfInBounds]
  split
  · simp [show c < 4 by omega]
  · exact htally

/-- A grading sets one level. -/
theorem regrade_wru {c : Nat} (hc : c < 8) (s : State) :
    (regrade c s).wru
      = s.wru.setCounter c { s.wru.counter c with level := gradeOf s.cal c (s.wru.counter c).value } := by
  rw [regrade, setLevel_eq _ _ _ hc]
  rfl

theorem Wru.setCounter_setCounter (w : Wru) (c : Nat) (k l : Counter) :
    (w.setCounter c k).setCounter c l = w.setCounter c l := by
  simp [Wru.setCounter]

@[simp] theorem Wru.counter_addTally (w : Wru) (c units d : Nat) : (w.addTally c units).counter d = w.counter d := rfl

/-- The level that a counter has once its value is that of `k` (R139): it is graded if the value has changed and WRU is SEEDED. -/
def putLevel (s : State) (c : Nat) (k : Counter) : Level :=
  if k.value ≠ (s.wru.counter c).value ∧ s.wru.seeded = true then gradeOf s.cal c k.value else k.level

theorem putLevel_of_value_eq {s : State} {c : Nat} {k : Counter} (h : k.value = (s.wru.counter c).value) :
    putLevel s c k = k.level := if_neg fun hn => hn.1 h

theorem putLevel_of_unseeded {s : State} (c : Nat) (k : Counter) (h : s.wru.seeded = false) : putLevel s c k = k.level :=
  if_neg fun hn => by simp [h] at hn

theorem putLevel_of_value_ne {s : State} {c : Nat} {k : Counter} (h : k.value ≠ (s.wru.counter c).value)
    (hs : s.wru.seeded = true) : putLevel s c k = gradeOf s.cal c k.value := if_pos ⟨h, hs⟩

/-- A new counter value sets that counter and feeds its tally. -/
theorem putCounter_wru {c : Nat} (hc : c < 8) (k : Counter) (units : Nat) (s : State) :
    (putCounter c k units s).wru = (s.wru.setCounter c { k with level := putLevel s c k }).addTally c units := by
  unfold putCounter
  dsimp only
  by_cases hvalue : k.value = (s.wru.counter c).value
  · rw [if_pos hvalue, putLevel_of_value_eq hvalue]
    rfl
  rw [if_neg hvalue, regradeSeeded]
  cases hs : s.wru.seeded with
  | false => rw [putLevel_of_unseeded c k hs]; exact congrArg State.wru (if_neg (by simp [Wru.addTally, Wru.setCounter, hs]))
  | true =>
    rw [putLevel_of_value_ne hvalue hs, if_pos (by simpa [Wru.addTally, Wru.setCounter] using hs), regrade_wru hc]
    simp only [State.setWru_wru, State.setWru_cal, Wru.counter_addTally, Wru.counter_setCounter _ _ _ _ hc, if_true]
    exact congrArg (·.addTally c units) (Wru.setCounter_setCounter s.wru c k _)

/-- A number that is no counter's takes no value. -/
theorem putCounter_outside {c : Nat} (hc : 8 ≤ c) (k : Counter) (units : Nat) (s : State) :
    putCounter c k units s = s := by
  have hcounter : s.wru.counter c = Counter.reset := by simp [Wru.counter, hc]
  have hput : (s.wru.setCounter c k).addTally c units = s.wru := by
    have hcounters : s.wru.counters.setIfInBounds c k = s.wru.counters := by
      apply Vector.ext; intro i hi; simp [show c ≠ i by omega]
    have htally (n : Nat) : s.wru.tally.setIfInBounds c n = s.wru.tally := by
      apply Vector.ext; intro i hi; simp [show c ≠ i by omega]
    simp [Wru.setCounter, Wru.addTally, hcounters, htally]
  have hregrade : regrade c s = s := by
    simp [regrade, setLevel, hcounter, Counter.reset, gradeOf_zero]
  simp [putCounter, hput, regradeSeeded, hregrade]

/-- A new value of a counter that keeps its level keeps what is right but for the lamp. -/
theorem putCounter_wearSound {s : State} (h : s.WearSound) {c : Nat} {k : Counter} (hc : c < 8)
    (hk : k.Sound (residueUnit c)) (hlevel : k.level = (s.wru.counter c).level) (units : Nat) :
    (putCounter c k units s).WearSound := by
  obtain ⟨hmetered, hlevelled, hdriven⟩ := h
  refine ⟨?_, ?_, ?_⟩ <;> rw [putCounter_wru hc]
  · exact (hmetered.setCounter hc (hk.with_level _)).addTally c units
  · have hframe : (putCounter c k units s).mail.loadEndWru = s.mail.loadEndWru ∧ (putCounter c k units s).cal = s.cal := by
      simp
    rw [hframe.1, hframe.2]
    refine ⟨fun hs d hd => ?_, fun hs hwaits d hd => ?_⟩
    all_goals
      replace hs : s.wru.seeded = _ := hs
      rw [Wru.counter_addTally, Wru.counter_setCounter _ _ _ _ hc]
      split
    · exact (putLevel_of_unseeded c k hs).trans (hlevel.trans (hlevelled.unseeded hs c hc))
    · exact hlevelled.unseeded hs d hd
    · subst d
      by_cases hvalue : k.value = (s.wru.counter c).value
      · simpa only [putLevel_of_value_eq hvalue, hlevel, hvalue] using hlevelled.graded hs hwaits c hc
      · exact putLevel_of_value_ne hvalue hs
    · exact hlevelled.graded hs hwaits d hd
  · exact ⟨hdriven.wlamp, hdriven.timer⟩

/-! ## Feeding the counters (R130 to R134) -/

theorem Counter.addUnits_sound {k : Counter} {unit : Nat} (h : k.Sound unit) (units : Nat) :
    (k.addUnits units).1.Sound unit := by
  obtain ⟨hresidue, hvalue, hsaturated⟩ := h
  unfold Counter.addUnits Config.counterMax
  split
  · exact ⟨hresidue, Nat.le_refl _, fun _ => rfl⟩
  · refine ⟨hresidue, Nat.le_of_not_lt ‹_›, fun hs => ?_⟩
    have hfull := hsaturated hs
    dsimp only
    omega

theorem Counter.Sound.with_residue {k : Counter} {unit r : Nat} (h : k.Sound unit) (hr : r < unit) :
    ({ k with residue := r } : Counter).Sound unit := ⟨hr, h.value, h.saturated⟩

theorem Counter.addUnits_level (k : Counter) (units : Nat) : (k.addUnits units).1.level = k.level := by
  unfold Counter.addUnits
  split <;> rfl

theorem residueUnit_pos (c : Nat) : 0 < residueUnit c := by
  unfold residueUnit
  (repeat' split) <;> decide

theorem feedResidue_wearSound {s : State} (h : s.WearSound) {c : Nat} (hc : c < 8) (inc : Nat) :
    (feedResidue c (residueUnit c) inc s).WearSound := by
  unfold feedResidue
  dsimp only
  split
  · exact h
  · have hfed := Counter.addUnits_sound (h.metered.counters c hc) (((s.wru.counter c).residue + inc) / residueUnit c)
    exact putCounter_wearSound h hc (hfed.with_residue (Nat.mod_lt _ (residueUnit_pos c))) (Counter.addUnits_level _ _) _

theorem feedCount_wearSound {s : State} (h : s.WearSound) (c n : Nat) : (feedCount c n s).WearSound := by
  unfold feedCount
  dsimp only
  split
  · exact h
  · by_cases hc : c < 8
    · exact putCounter_wearSound h hc (Counter.addUnits_sound (h.metered.counters c hc) n) (Counter.addUnits_level _ _) _
    · rw [putCounter_outside (Nat.le_of_not_lt hc)]
      exact h

/-- Every increment of a result goes to a counter, with that counter's carry unit (R130, R131, R133). -/
theorem resultIncrements_unit (cal : Cal) (eng : EngState) (x : ResultRecord) :
    ∀ i ∈ resultIncrements cal eng x, i.1 < 8 ∧ i.2.1 = residueUnit i.1 := by
  simp only [resultIncrements, List.forall_mem_append, List.forall_mem_cons]
  refine ⟨⟨⟨⟨by simp [residueUnit], ?_⟩, by simp [residueUnit]⟩, ?_⟩, by simp [residueUnit]⟩
  all_goals split <;> simp [residueUnit]

theorem feedAll_wearSound (l : List (Nat × Nat × Nat)) (hl : ∀ i ∈ l, i.1 < 8 ∧ i.2.1 = residueUnit i.1) {s : State}
    (h : s.WearSound) : (l.foldl (fun s i => feedResidue i.1 i.2.1 i.2.2 s) s).WearSound := by
  induction l generalizing s with
  | nil => exact h
  | cons i rest ih =>
    obtain ⟨⟨hi, hunit⟩, hrest⟩ := List.forall_mem_cons.mp hl
    have hfed := feedResidue_wearSound h hi i.2.2
    rw [← hunit] at hfed
    exact ih hrest hfed

theorem wruTakes_wearInv (x : ResultRecord) {s : State} (h : s.WearSound) : WearInv (wruTakes x s) :=
  setLamp_wearInv (feedAll_wearSound _ (resultIncrements_unit _ _ _) h)

theorem wruTakesIncrement_wearInv (c n : Nat) {s : State} (h : s.WearSound) : WearInv (wruTakesIncrement c n s) :=
  setLamp_wearInv (feedCount_wearSound h c n)

theorem wruTakesNext_wearInv {s : State} (h : WearInv s) : WearInv (wruTakesNext s) := by
  unfold wruTakesNext
  split
  · exact h
  · refine wruTakes_wearInv _ (WearInv.sound ?_)
    exact h.of_wru_eq rfl rfl rfl

theorem wruTakesNextIncrement_wearInv {s : State} (h : WearInv s) : WearInv (wruTakesNextIncrement s) := by
  unfold wruTakesNextIncrement
  split
  · exact h
  · refine wruTakesIncrement_wearInv _ _ (WearInv.sound ?_)
    exact h.of_wru_eq rfl rfl rfl

/-! ## The km rings (R145, R146) -/

theorem Wru.Metered.kmPush {w : Wru} (h : w.Metered) : w.kmPush.Metered := by
  refine ⟨h.counters, fun c hc => ?_⟩
  have hlen := (h.rings c hc).1
  have hring : w.kmPush.kmRing c
      = (if 16 ≤ (w.kmRing c).length then (w.kmRing c).drop 1 else w.kmRing c) ++ [w.kmTally c] := by
    unfold Wru.kmPush
    simp only [Wru.kmRing, Vector.getElem?_ofFn, hc, dif_pos, Option.getD_some]
  have htally : w.kmPush.kmTally c = 0 := by
    unfold Wru.kmPush
    simp only [Wru.kmTally, Vector.getElem?_replicate, hc, if_true, Option.getD_some]
  rw [hring, htally, List.length_append, List.length_singleton]
  refine ⟨?_, Nat.zero_le _⟩
  split
  · rw [List.length_drop]; omega
  · omega

/-- Tallies, rings and accumulator replaced, with the counters metered as before. -/
theorem WearInv.with_odometer {s : State} (h : WearInv s) {tally : Vector Nat 4} {ring : Vector (List Nat) 4} (acc : Nat)
    (hm : { s.wru with tally := tally, ring := ring }.Metered) :
    WearInv (s.setWru { s.wru with tally := tally, ring := ring, kmAcc := acc }) :=
  wearInv_iff.mpr
    ⟨⟨⟨hm.counters, hm.rings⟩, ⟨h.unseeded, h.graded⟩, ⟨h.lamp, h.timer⟩⟩, h.shown⟩

theorem wruTakesDistance_wearInv (d : Nat) {s : State} (h : WearInv s) : WearInv (wruTakesDistance d s) := by
  unfold wruTakesDistance
  dsimp only
  split
  · exact h.with_odometer (s.wru.kmAcc + d - 1000000) h.sound.metered.kmPush
  · exact h.with_odometer (s.wru.kmAcc + d) h.sound.metered

theorem wruTakesNextDistance_wearInv {s : State} (h : WearInv s) : WearInv (wruTakesNextDistance s) := by
  unfold wruTakesNextDistance
  split
  · exact h
  · exact wruTakesDistance_wearInv _ (h.of_wru_eq rfl rfl rfl)

/-! ## The lamp timer (R144) -/

/-- A Wear Unit that differs in the lamp alone keeps the invariant where WLAMP and timer agree with the pattern. -/
theorem WearInv.with_lamp {s : State} (h : WearInv s) {phase : LampPhase} {wlamp : Bool} {timer : Option PartTime}
    (hd : { s.wru with phase := phase, wlamp := wlamp, lampTimer := timer }.LampDriven) :
    WearInv (s.setWru { s.wru with phase := phase, wlamp := wlamp, lampTimer := timer }) :=
  wearInv_iff.mpr ⟨⟨⟨h.sound.metered.counters, h.sound.metered.rings⟩, ⟨h.unseeded, h.graded⟩, hd⟩, h.shown⟩

theorem lampTimerExpiry_wearInv {s t : State} (h : WearInv s) (he : exec .lampTimerExpiry s = .next t) : WearInv t := by
  simp only [exec, execLampTimerExpiry, Host.Outcome.next.injEq] at he
  subst he
  split
  · rename_i hflash
    simp only [Bool.and_eq_true, beq_iff_eq] at hflash
    split
    all_goals exact h.with_lamp ⟨by simp [hflash.1], by simp [hflash.1]⟩
  · exact h

/-! ## Grading at the end of LOADING, at a seed and at a threshold written (R137, R141) -/

/-- All eight counters graded: what is right but for the levels and the lamp is right but for the lamp, where WRU is SEEDED. -/
theorem gradeAll_wearSound {s : State} (hm : s.wru.Metered) (hd : s.wru.LampDriven) (hs : s.wru.seeded = true) :
    (gradeAll s).WearSound := by
  have hcounter : ∀ c < 8, (s.wru.gradedOn s.cal (List.range 8)).counter c
      = { s.wru.counter c with level := gradeOf s.cal c (s.wru.counter c).value } := fun c hc => by
    rw [Wru.counter_gradedOn _ _ _ _ hc, if_pos (List.mem_range.mpr hc)]
  have hmetered : (s.wru.gradedOn s.cal (List.range 8)).Metered :=
    ⟨fun c hc => hcounter c hc ▸ (hm.counters c hc).with_level _, hm.rings⟩
  have hlevelled : (s.wru.gradedOn s.cal (List.range 8)).Levelled s.cal s.mail.loadEndWru :=
    .of_graded (w := s.wru.gradedOn s.cal (List.range 8)) hs (fun c hc => by rw [hcounter c hc]) _
  rw [gradeAll_eq]
  exact ⟨hmetered, hlevelled, ⟨hd.wlamp, hd.timer⟩⟩

theorem wruTakesLoadEnd_wearInv {s : State} (h : WearInv s) : WearInv (wruTakesLoadEnd s) := by
  unfold wruTakesLoadEnd
  split
  · dsimp only
    split
    · exact setLamp_wearInv (gradeAll_wearSound h.sound.metered h.sound.driven ‹_›)
    · exact h.of_levelled rfl (h.sound.levelled.of_ungraded (.inr (Bool.eq_false_of_not_eq_true ‹_›)))
  · exact h

theorem wruTakesLoadEnd_taken (s : State) : (wruTakesLoadEnd s).mail.loadEndWru = false := by
  unfold wruTakesLoadEnd
  dsimp only
  (repeat' split) <;> simp_all

/-! ## WEAR_SEED and WEAR_SERVICE (R137, R138) -/

/-- A seed enters a value as whole units do (R134, R137). -/
theorem Counter.seed_eq_addUnits (k : Counter) (seed : Nat) : k.seed seed = (k.addUnits seed).1 := by
  unfold Counter.seed Counter.addUnits
  split <;> rfl

theorem Wru.Metered.addSeeds {w : Wru} (h : w.Metered) (p : List Byte) : (w.addSeeds p).Metered := by
  refine ⟨fun c hc => ?_, h.rings⟩
  have hcounter : (w.addSeeds p).counter c = (w.counter c).seed (seedAt p c) := by
    unfold Wru.addSeeds Wru.counter
    simp only [Vector.getElem?_ofFn, hc, dif_pos, Option.getD_some]
  rw [hcounter, Counter.seed_eq_addUnits]
  exact Counter.addUnits_sound (h.counters c hc) _

theorem WearInv.replied {s : State} (h : WearInv s) (e : Byte) (st : Status) (d : Nat) : WearInv (reply e st d s) :=
  h.of_wru_eq rfl rfl rfl

theorem wearSeedServe_wearInv (f : Frame) {s : State} (h : WearInv s) : WearInv (execWearSeed.serve f s) := by
  unfold execWearSeed.serve
  split
  · exact h.replied _ _ _
  · have hseeded : (gradeAll (s.setWru (s.wru.addSeeds f.payload))).WearSound :=
      gradeAll_wearSound (h.sound.metered.addSeeds f.payload) ⟨h.lamp, h.timer⟩ rfl
    exact (setLamp_wearInv hseeded).replied _ _ _

/-- A serviced counter is as at power-on, and the others are as they were. -/
theorem Wru.counter_serviced (w : Wru) {c : Nat} (hc : c < 8) (d : Nat) :
    (w.serviced c).counter d = if d = c then Counter.reset else w.counter d :=
  Wru.counter_setCounter w c d Counter.reset hc

theorem Counter.reset_sound (c : Nat) : Counter.reset.Sound (residueUnit c) :=
  ⟨residueUnit_pos c, Nat.zero_le _, fun h => by cases h⟩

theorem Wru.Metered.serviced {w : Wru} (h : w.Metered) {c : Nat} (hc : c < 8) : (w.serviced c).Metered := by
  refine ⟨(h.setCounter hc (Counter.reset_sound c)).counters, fun d hd => ?_⟩
  obtain ⟨hring, htally⟩ := h.rings d hd
  simp only [Wru.kmRing, Wru.kmTally, Wru.serviced, Vector.getElem?_setIfInBounds] at hring htally ⊢
  constructor <;> split
  · simp [show c < 4 by omega]
  · exact hring
  · simp [show c < 4 by omega]
  · exact htally

theorem Wru.Levelled.serviced {w : Wru} {cal : Cal} {waits : Bool} (h : w.Levelled cal waits) {c : Nat} (hc : c < 8) :
    (w.serviced c).Levelled cal waits := by
  refine ⟨fun hs d hd => ?_, fun hs hwaits d hd => ?_⟩ <;> rw [Wru.counter_serviced w hc] <;> split
  · rfl
  · exact h.unseeded hs d hd
  · exact (gradeOf_zero cal d).symm
  · exact h.graded hs hwaits d hd

/-- A service of a counter at NONE changes no level. -/
theorem lampPatternFor_serviced {w : Wru} {c : Nat} (hc : c < 8) (h : (w.counter c).level = .none) :
    lampPatternFor (w.serviced c) = lampPatternFor w := by
  refine lampPatternFor_congr rfl fun d _ => ?_
  rw [Wru.counter_serviced w hc]
  split
  · subst d; exact h.symm
  · rfl

theorem wearServiceServe_wearInv (f : Frame) {s : State} (h : WearInv s) : WearInv (execWearService.serve f s) := by
  unfold execWearService.serve
  dsimp only
  split
  · exact h.replied _ _ _
  rename_i hc
  replace hc : byteAt f.payload 0 < 8 := by omega
  split
  · exact h.replied _ _ _
  have hserviced : (s.setWru (s.wru.serviced (byteAt f.payload 0))).WearSound :=
    ⟨h.sound.metered.serviced hc, h.sound.levelled.serviced hc, ⟨h.lamp, h.timer⟩⟩
  apply WearInv.replied
  split
  · exact wearInv_iff.mpr ⟨hserviced, h.shown.trans (lampPatternFor_serviced hc ‹_›).symm⟩
  · exact setLamp_wearInv ⟨hserviced.metered, hserviced.levelled, hserviced.driven⟩

/-! ## CAL_WRITE (R141, R159) -/

/-- A threshold written grades its counter, and no other grade changes. -/
theorem gradeThreshold_wearInv {s : State} (h : WearInv s) {id : Nat} (v : Int) (hlow : 96 ≤ id) (hhigh : id ≤ 119)
    (hwaits : s.mail.loadEndWru = false) :
    WearInv (gradeThreshold id (s.setMdc { s.mdc with cal := s.cal.set id v })) := by
  unfold gradeThreshold
  split
  · rename_i hs
    have hc : (id - 96) / 3 < 8 := by omega
    refine setLamp_wearInv ⟨?_, ?_, ?_⟩ <;> rw [regrade_wru hc]
    · exact h.sound.metered.setCounter hc ((h.sound.metered.counters _ hc).with_level _)
    · refine .of_graded (by exact hs) (fun d hd => ?_) _
      rw [Wru.counter_setCounter _ _ _ _ hc]
      simp only [regrade_leaves]
      split
      · subst d; rfl
      · exact (h.graded hs hwaits d hd).trans (gradeOf_set_other s.cal v _ (by omega)).symm
    · exact ⟨h.lamp, h.timer⟩
  · exact h.of_levelled rfl (h.sound.levelled.of_ungraded (.inr (Bool.eq_false_of_not_eq_true ‹_›)))

/-- A write of any other parameter changes no grade. -/
theorem WearInv.with_other_parameter {s : State} (h : WearInv s) {id : Nat} (v : Int) (hid : id < 96 ∨ 119 < id) :
    WearInv (s.setMdc { s.mdc with cal := s.cal.set id v }) :=
  h.of_levelled rfl ⟨h.unseeded, fun hs hw c hc =>
    (h.graded hs hw c hc).trans (gradeOf_set_other s.cal v _ (by omega)).symm⟩

theorem calWriteEffect_wearInv {s : State} (h : WearInv s) {id : Nat} (v : Int)
    (hwaits : 96 ≤ id → id ≤ 119 → s.mail.loadEndWru = false) :
    WearInv (calWriteEffect id (s.setMdc { s.mdc with cal := s.cal.set id v })) := by
  unfold calWriteEffect
  split
  · exact (h.with_other_parameter v (by omega)).of_wru_eq rfl rfl rfl
  · split
    · rename_i hid
      exact gradeThreshold_wearInv h v hid.1 hid.2 (hwaits hid.1 hid.2)
    · exact h.with_other_parameter v (by omega)

/-- Served in CONFIG, a write of a threshold finds the end of LOADING taken (R155). -/
theorem calWrite_ready_loaded {f : Frame} {s : State} (h : execCalWrite.ready f s = true) (hop : s.mdc.op = .config)
    (hlow : 96 ≤ byteAt f.payload 0) (hhigh : byteAt f.payload 0 ≤ 119) : s.mail.loadEndWru = false := by
  cases hwaits : s.mail.loadEndWru with
  | false => rfl
  | true => simp [execCalWrite.ready, hop, hlow, hhigh, hwaits] at h

theorem calWriteServe_wearInv (f : Frame) {s : State} (h : WearInv s) (hready : execCalWrite.ready f s = true) :
    WearInv (execCalWrite.serve f s) := by
  unfold execCalWrite.serve
  split
  · dsimp only
    split
    · exact (calWriteEffect_wearInv h _ (calWrite_ready_loaded hready ‹_›)).replied _ _ _
    · exact h.replied _ _ _
  all_goals exact h.replied _ _ _

theorem calWrite_wearInv {s t : State} (h : WearInv s) (he : exec .calWrite s = .next t) : WearInv t := by
  cases he
  rcases takeRequest_cases 0x30 execCalWrite.ready execCalWrite.serve s with
    e | ⟨f, rest, -, -, ⟨-, e⟩ | ⟨-, hready, e⟩⟩ <;> rw [e]
  · exact h
  · exact h.of_wru_eq rfl rfl rfl
  · exact calWriteServe_wearInv f (h.of_wru_eq rfl rfl rfl) hready

/-! ## The commands that leave all of it alone -/

/-- What WRU's levels answer to: the calibration set, and whether the end of LOADING waits to be taken. -/
def State.grading (s : State) : Cal × Bool := (s.cal, s.mail.loadEndWru)

/-- The commands that can change what the levels answer to. -/
def changesGrading : Instr → Bool
  | .powerOn _ | .resetn _ | .imageReadEnd _ | .wruLoadingGrade | .calWrite | .transmitEnd => true
  | _ => false

/-- Every other request leaves it as it was. -/
theorem grading_kept_request (i : Instr) (hi : changesGrading i = false) (hr : isRequest i = true) (s t : State)
    (h : exec i s = .next t) : t.grading = s.grading := by
  cases i <;> first | (cases hi; done) | (cases hr; done) | skip
  case unknownType => exact execUnknown_keeps State.grading _ (.inl rfl) s t h fun _ _ => rfl
  case queryUnknownTopic => exact execUnknown_keeps State.grading _ (.inr rfl) s t h fun _ _ => rfl
  case queryStatus | queryWearA | queryWearB | queryPredict | queryRoute | queryStartsA | queryStartsB | queryMap =>
    cases h
    exact takeQuery_keeps State.grading _ _ _ _ s (fun _ _ => rfl) (by intro s; simp [State.grading])
  all_goals
    cases h
    refine takeRequest_keeps State.grading _ _ _ s (fun _ _ => rfl) fun f s => ?_
    simp only [execDemand.serve, execStart.serve, execHalt.serve, execRestart.serve, execFaultClear.serve,
      execCalRead.serve, execRouteLoad.serve, execRouteArm.serve, execRouteDepart.serve, execRouteSync.serve,
      execRouteClear.serve, execMapFlush.serve, execWearSeed.serve, execWearService.serve]
    (repeat' split) <;> simp [State.grading] <;> rfl

/-- So does every other command. -/
theorem grading_kept (i : Instr) (hi : changesGrading i = false) (s t : State) (h : exec i s = .next t) :
    t.grading = s.grading := by
  by_cases hr : isRequest i = true
  · exact grading_kept_request i hi hr s t h
  cases i <;> first | (cases hi; done) | (exact absurd rfl hr) | skip
  all_goals
    simp only [exec, execHeatInit, dspTakesLoadEnd, execDemandTimerExpiry, execHeatUpdate, heatTakesNext,
      execRteResult, rteTakesNext, execEngResultEvaluation, engTakesNext, execCrankTimerExpiry, execPauseTimerExpiry,
      execWarmTimerExpiry, execStopHoldExpiry, execCooldownTimerExpiry, execWruResult, wruTakesNext,
      execEngineIncrement, wruTakesNextIncrement, execKmDistance, wruTakesNextDistance, execLampTimerExpiry,
      execFillSuccess, execCheckFailure, execFrameReceived, execGapTimerExpiry, execFramingFault, execLineBreak,
      execBreakWaitEnd, execMeasureStart, execMeasurementEnd, execStageAnswer, execStageNotice, execEventRaised,
      execCoalescingTimerExpiry, execCharacterReceived, execMeasureFirstRisingEdge, execMeasurementCountOverflow,
      stateTimerExpiry, execCrankTimerExpiry.act, execPauseTimerExpiry.act, execWarmTimerExpiry.act,
      Host.Outcome.next.injEq] at h
    subst h
    (repeat' split) <;> simp [State.grading]

/-- A command that changes neither the Wear Unit nor what its levels answer to keeps the invariant. -/
theorem WearInv.kept {s t : State} (h : WearInv s) (i : Instr) (hw : changesWru i = false)
    (hg : changesGrading i = false) (he : exec i s = .next t) : WearInv t := by
  obtain ⟨hcal, hmail⟩ := Prod.mk.inj (grading_kept i hg s t he)
  exact h.of_wru_eq (wru_kept i hw s t he) hcal hmail

/-! ## LOADING, the resets and RESTART (R129, R150, R155, R161) -/

/-- Once LOADING has ended, the levels need not be right before WRU has taken its end (R141). -/
theorem WearInv.of_waiting {s t : State} (h : WearInv s) (hw : t.wru = s.wru) (hmail : t.mail.loadEndWru = true) :
    WearInv t :=
  h.of_levelled hw (h.sound.levelled.of_ungraded (.inl hmail))

theorem finishLoading_loadEndWru (c : Cal) (s : State) : (finishLoading c s).mail.loadEndWru = true := rfl

theorem keepDefaults_loadEndWru (a : Nat) (s : State) : (keepDefaults a s).mail.loadEndWru = true := rfl

/-- The end of an image read ends LOADING, or does nothing. -/
theorem imageReadEnd_loadEndWru (m : MapData) {s t : State} (he : exec (.imageReadEnd m) s = .next t) :
    t = s ∨ t.mail.loadEndWru = true := by
  simp only [exec, execImageReadEnd, Host.Outcome.next.injEq] at he
  subst he
  split
  · split
    · exact .inr (finishLoading_loadEndWru _ _)
    · exact .inr (keepDefaults_loadEndWru _ _)
  · exact .inl rfl

theorem imageReadEnd_wearInv (m : MapData) {s t : State} (h : WearInv s) (he : exec (.imageReadEnd m) s = .next t) :
    WearInv t := by
  rcases imageReadEnd_loadEndWru m he with rfl | hwaits
  · exact h
  · exact h.of_waiting (wru_kept (.imageReadEnd m) rfl s t he) hwaits

/-- Entering LOADING ends it at once, or leaves alone what the invariant speaks of. -/
theorem enterLoading_wearInv {s : State} (h : WearInv s) : WearInv (enterLoading s) := by
  unfold enterLoading
  dsimp only
  split
  · exact h.of_waiting (by simp) (keepDefaults_loadEndWru _ _)
  · split
    · exact h.of_waiting (by simp) (keepDefaults_loadEndWru _ _)
    · exact h.of_wru_eq rfl rfl rfl

theorem Wru.counter_reset {c : Nat} (hc : c < 8) : Wru.reset.counter c = Counter.reset := by
  simp [Wru.counter, Wru.reset, hc]

theorem Wru.reset_metered : Wru.reset.Metered := by
  refine ⟨fun c hc => ?_, fun c hc => ?_⟩
  · rw [Wru.counter_reset hc]
    exact Counter.reset_sound c
  · have hring : Wru.reset.kmRing c = [] := by simp [Wru.reset, Wru.kmRing, hc]
    have htally : Wru.reset.kmTally c = 0 := by simp [Wru.reset, Wru.kmTally, hc]
    rw [hring, htally]
    exact ⟨Nat.zero_le _, Nat.zero_le _⟩

/-- The values of a power-on and a RESETN meet the invariant, whatever was before. -/
theorem resetValues_wearInv (straps : Straps) (s : State) : WearInv (resetValues straps s) := by
  have hlevelled : Wru.reset.Levelled Cal.defaults false :=
    ⟨fun _ c hc => by rw [Wru.counter_reset hc]; rfl, fun hs => by cases hs⟩
  have hdriven : Wru.reset.LampDriven := by constructor <;> simp [Wru.reset]
  exact wearInv_iff.mpr ⟨⟨Wru.reset_metered, hlevelled, hdriven⟩, rfl⟩

/-- The invariant with the end of LOADING taken. -/
def State.WearSettled (s : State) : Prop := WearInv s ∧ s.mail.loadEndWru = false

/-- A command that keeps the invariant and leaves the grading alone keeps it settled. -/
theorem State.WearSettled.kept {s t : State} (h : s.WearSettled) (i : Instr) (hg : changesGrading i = false)
    (he : exec i s = .next t) (ht : WearInv t) : t.WearSettled :=
  ⟨ht, (Prod.mk.inj (grading_kept i hg s t he)).2.trans h.2⟩

/-- What waits before a RESTART is taken with the invariant kept, the end of LOADING among it. -/
theorem takeAllWaiting_wearSettled {s : State} (h : WearInv s) : (takeAllWaiting s).WearSettled := by
  have hloaded : (wruTakesLoadEnd (dspTakesLoadEnd s)).WearSettled :=
    ⟨wruTakesLoadEnd_wearInv (h.kept .heatInit rfl rfl rfl), wruTakesLoadEnd_taken _⟩
  have hheat : ∀ s, s.WearSettled → (heatTakesNext s).WearSettled := fun _ h =>
    h.kept .heatUpdate rfl rfl (h.1.kept .heatUpdate rfl rfl rfl)
  have hrte : ∀ s, s.WearSettled → (rteTakesNext s).WearSettled := fun _ h =>
    h.kept .rteResult rfl rfl (h.1.kept .rteResult rfl rfl rfl)
  have heng : ∀ s, s.WearSettled → (engTakesNext s).WearSettled := fun _ h =>
    h.kept .engResultEvaluation rfl rfl (h.1.kept .engResultEvaluation rfl rfl rfl)
  have hwru : ∀ s, s.WearSettled → (wruTakesNext s).WearSettled := fun _ h =>
    h.kept .wruResult rfl rfl (wruTakesNext_wearInv h.1)
  have hinc : ∀ s, s.WearSettled → (wruTakesNextIncrement s).WearSettled := fun _ h =>
    h.kept .engineIncrement rfl rfl (wruTakesNextIncrement_wearInv h.1)
  have hkm : ∀ s, s.WearSettled → (wruTakesNextDistance s).WearSettled := fun _ h =>
    h.kept .kmDistance rfl rfl (wruTakesNextDistance_wearInv h.1)
  unfold takeAllWaiting
  dsimp only
  apply Function.Iterate.rec State.WearSettled (app := hkm)
  apply Function.Iterate.rec State.WearSettled (app := hinc)
  apply Function.Iterate.rec State.WearSettled (app := hwru)
  apply Function.Iterate.rec State.WearSettled (app := heng)
  apply Function.Iterate.rec State.WearSettled (app := hrte)
  apply Function.Iterate.rec State.WearSettled (app := hheat)
  exact hloaded

theorem countHotStop_wearSettled {s : State} (h : s.WearSettled) : (countHotStop s).WearSettled := by
  unfold countHotStop
  split
  · exact ⟨wruTakesIncrement_wearInv 6 1 h.1.sound, by simpa using h.2⟩
  · exact h

/-- A RESTART lights a flashing lamp and leaves the rest of WRU alone (R129). -/
theorem WearInv.restarted {s : State} (h : WearInv s) : WearInv (s.setWru s.wru.restarted) := by
  unfold Wru.restarted
  split
  · rename_i hflash
    exact h.with_lamp ⟨by simp [hflash], by simp [hflash]⟩
  all_goals exact h

theorem restartEffect_wearInv {s : State} (h : WearInv s) : WearInv (restartEffect s) := by
  have hsettled := countHotStop_wearSettled (takeAllWaiting_wearSettled h)
  unfold restartEffect
  dsimp only
  generalize countHotStop (takeAllWaiting s) = taken at hsettled ⊢
  obtain ⟨htaken, hwaits⟩ := hsettled
  exact enterLoading_wearInv (htaken.restarted.of_wru_eq rfl rfl hwaits.symm)

theorem transmitEnd_wearInv {s t : State} (h : WearInv s) (he : exec .transmitEnd s = .next t) : WearInv t := by
  simp only [exec, execTransmitEnd, Host.Outcome.next.injEq] at he
  subst he
  split
  · exact h
  · split
    · exact restartEffect_wearInv h
    · exact h.of_wru_eq rfl rfl rfl

/-! ## Every command and every step -/

theorem takeRequest_wearInv {s : State} (type : Byte) (ready : Frame → State → Bool) {serve : Frame → State → State}
    (hserve : ∀ f s, WearInv s → WearInv (serve f s)) (h : WearInv s) : WearInv (takeRequest type ready serve s) :=
  takeRequest_preserves type ready (fun _ _ h => h.of_wru_eq rfl rfl rfl) hserve h

/-- Every command keeps the invariant. -/
theorem exec_wearInv (i : Instr) {s t : State} (h : WearInv s) (he : exec i s = .next t) : WearInv t := by
  cases i
  case powerOn straps | resetn straps => cases he; exact enterLoading_wearInv (resetValues_wearInv straps s)
  case imageReadEnd m => exact imageReadEnd_wearInv m h he
  case wruLoadingGrade => cases he; exact wruTakesLoadEnd_wearInv h
  case wruResult => cases he; exact wruTakesNext_wearInv h
  case engineIncrement => cases he; exact wruTakesNextIncrement_wearInv h
  case kmDistance => cases he; exact wruTakesNextDistance_wearInv h
  case lampTimerExpiry => exact lampTimerExpiry_wearInv h he
  case calWrite => exact calWrite_wearInv h he
  case wearSeed => cases he; exact takeRequest_wearInv _ _ (fun f _ => wearSeedServe_wearInv f) h
  case wearService => cases he; exact takeRequest_wearInv _ _ (fun f _ => wearServiceServe_wearInv f) h
  case transmitEnd => exact transmitEnd_wearInv h he
  all_goals exact h.kept _ rfl rfl he

/-- Every step keeps the invariant: the queue of commands and the clock are none of what it speaks of. -/
theorem step_wearInv {s t : State} (h : WearInv s) (he : step s = .next t) : WearInv t := by
  unfold step at he
  split at he
  · cases he
    exact h.of_wru_eq rfl rfl rfl
  · rename_i i rest _
    have hrest : WearInv { s with pending := rest } := h.of_wru_eq rfl rfl rfl
    exact exec_wearInv i hrest he

/-- Settles O57: every step keeps the invariant, whose levels are grades and whose pattern follows the levels; a grade and a
pattern are those of R139 and Table 6-5. -/
theorem wearKept : Obligations.WearKept := by
  refine ⟨fun s t h he => ?_, fun cal c value => gradeLevel_iff _ _ _ _,
    fun w => ⟨lampPatternFor_flash_iff w, lampPatternFor_steady_iff w⟩⟩
  have ht := step_wearInv h he
  refine ⟨ht, fun hs hwaits c hc => ?_, fun hs => ⟨?_, ht.unseeded hs⟩, fun hs => ?_⟩
  · rw [ht.graded hs hwaits c hc]
    exact gradeLevel_iff _ _ _ _
  · rw [ht.pattern, lampPatternFor_unseeded hs]
  · rw [ht.pattern, lampPatternFor_flash_iff, lampPatternFor_steady_iff]
    simp only [hs, true_and, and_self]

end Sys2Proof.Machine
end

section
/-!
PROOFS. The Engine Scheduler: what each of its operations does, one equation each; its invariant (R83, R89, R93, R100, R101); and
what an entry into CRANKING adds (R83).
-/
namespace Sys2Proof.Machine

/-! ## What the operations do (R80, R86 to R100) -/

/-- QUIET_BREACH is raised once, with the mark set (R87). -/
theorem quietBreach_eq (a : Nat) (s : State) :
    quietBreach a s =
      if s.eng.breachMark then s
      else State.raising { s with eng := { s.eng with breachMark := true } } .eng [(.quietBreach, a, s.eng.lastSoc)] := rfl

/-- Afterwards the mark is set in either case. -/
@[simp] theorem quietBreach_eng (a : Nat) (s : State) : (quietBreach a s).eng = { s.eng with breachMark := true } := by
  unfold quietBreach
  split
  · rename_i h
    exact congrArg (fun b => { s.eng with breachMark := b }) h
  · rfl

@[simp] theorem refuseByBudget_eng (s : State) : (refuseByBudget s).eng = { s.eng with budgetMark := true } := by
  unfold refuseByBudget
  split
  · rename_i h
    exact congrArg (fun b => { s.eng with budgetMark := b }) h
  · rfl

theorem State.inQuiet_iff (s : State) : s.inQuiet = true ↔ s.rte.zone = .quiet := beq_iff_eq

@[simp] theorem startEngine_eng (kind : StartKind) (s : State) :
    (startEngine kind s).eng =
      { s.eng with
        state := .cranking, stateTimer := some (after s.now s.cal.crankTimeout)
        starts := appendStart kind s.now s.eng.starts, runStart := none
        breachMark := s.eng.breachMark || s.inQuiet } := by
  have hquiet (t : State) (h : t.rte = s.rte) : t.inQuiet = s.inQuiet := by simp [State.inQuiet, h]
  unfold startEngine
  dsimp only
  rw [hquiet _ (by simp)]
  cases s.inQuiet <;> simp

/-- A start sends the increment of its kind (R83). -/
@[simp] theorem startEngine_incIn (kind : StartKind) (s : State) :
    (startEngine kind s).mail.incIn = s.mail.incIn ++ [(4, startWeight kind)] := by
  unfold startEngine
  dsimp only
  split <;> simp

@[simp] theorem stopEngine_eng (cause : StopCause) (s : State) :
    (stopEngine cause s).eng =
      { s.eng with state := .stopped, stateTimer := none, stopHold := none, runStart := none, breachMark := false } := rfl

@[simp] theorem hotStop_eng (cause : StopCause) (s : State) :
    (hotStop cause s).eng =
      { s.eng with state := .stopped, stateTimer := none, stopHold := none, runStart := none, breachMark := false } := rfl

@[simp] theorem engineCaught_eng (s : State) :
    (engineCaught s).eng =
      { s.eng with
        state := .warmup, stateTimer := some (after s.now s.cal.warmTime), runStart := some s.now, forced := false } := rfl

/-- Three failures are LOCKOUT, fewer are PAUSE (R89, R93). -/
@[simp] theorem afterFailure_eng (a : Nat) (s : State) :
    (afterFailure a s).eng =
      if 3 ≤ s.eng.attempts then { s.eng with state := .lockout, stateTimer := none, forced := false, breachMark := false }
      else { s.eng with state := .pause, stateTimer := some (after s.now s.cal.crankPause) } := by
  unfold afterFailure
  split <;> rfl

@[simp] theorem enterCooldown_eng (s : State) :
    (enterCooldown s).eng =
      { s.eng with state := .cooldown, stateTimer := some (after s.now s.cal.cooldownMs), stopHold := none } := rfl

@[simp] theorem resumeRunning_eng (s : State) :
    (resumeRunning s).eng = { s.eng with state := .running, stateTimer := none, stopHold := none } := rfl

@[simp] theorem clearStopHold_eng (s : State) : (clearStopHold s).eng = { s.eng with stopHold := none } := rfl

@[simp] theorem markForced_eng (forced : Bool) (s : State) :
    (markForced forced s).eng = { s.eng with forced := s.eng.forced || forced } := rfl

@[simp] theorem prune_eng (s : State) :
    (prune s).eng =
      { s.eng with
        starts := s.eng.starts.dropWhile (StartEntry.aged s.cal s.now)
        budgetMark := s.eng.budgetMark
          && decide (s.cal.startBudget ≤ (s.eng.starts.dropWhile (StartEntry.aged s.cal s.now)).length) } := rfl

@[simp] theorem beginResult_eng (x : ResultRecord) (s : State) :
    (beginResult x s).eng =
      { (prune s).eng with lastSoc := x.soc, breachMark := s.eng.breachMark && s.inQuiet } := rfl

/-! ## The start list (R80, R81, R83) -/

/-- One start is later than another, by modular difference. -/
def StartEntry.later (x y : StartEntry) : Prop := 0 < elapsed y.time x.time ∧ elapsed y.time x.time < 2147483648

/-- The starts rise exactly where each is later than the one before it. -/
theorem startsRise_iff (l : List StartEntry) : startsRise l ↔ l.IsChain StartEntry.later := by
  induction l with
  | nil => simp [startsRise]
  | cons x rest ih =>
    cases rest with
    | nil => simp [startsRise]
    | cons y rest => rw [startsRise, ih, List.isChain_cons_cons]; rfl

/-- A start list as R83 has it: short enough, and rising. -/
structure StartList (l : List StartEntry) : Prop where
  size : l.length ≤ 12
  order : startsRise l

theorem StartList.suffix {l m : List StartEntry} (h : StartList l) (hm : m <:+ l) : StartList m :=
  ⟨hm.length_le.trans h.size, (startsRise_iff m).mpr (((startsRise_iff l).mp h.order).suffix hm)⟩

/-- R81: the start time of a new entry is later than the newest one's. -/
theorem newStartTime_later {l : List StartEntry} {e : StartEntry} (he : l.getLast? = some e) (now : PartTime)
    (kind : StartKind) : StartEntry.later e ⟨newStartTime now l, kind⟩ := by
  simp only [newStartTime, he, StartEntry.later]
  split
  · assumption
  · have hnext : elapsed (e.time + 1) e.time = 1 := by
      simp [elapsed]
    rw [hnext]
    decide

/-- The entries that a full list keeps for a new one (R81). -/
def keptStarts (l : List StartEntry) : List StartEntry := if 12 ≤ l.length then l.drop 1 else l

theorem appendStart_eq (kind : StartKind) (now : PartTime) (l : List StartEntry) :
    appendStart kind now l = keptStarts l ++ [⟨newStartTime now l, kind⟩] := rfl

theorem keptStarts_suffix (l : List StartEntry) : keptStarts l <:+ l := by
  unfold keptStarts
  split
  · exact List.drop_suffix 1 l
  · exact List.suffix_refl l

/-- A new entry keeps the list short and rising (R81, R83). -/
theorem StartList.append {l : List StartEntry} (h : StartList l) (kind : StartKind) (now : PartTime) :
    StartList (appendStart kind now l) := by
  have hkept := h.suffix (keptStarts_suffix l)
  have hsize := h.size
  refine ⟨?_, ?_⟩ <;> rw [appendStart_eq]
  · unfold keptStarts
    split <;> simp <;> omega
  · rw [startsRise_iff, List.isChain_append]
    refine ⟨(startsRise_iff _).mp hkept.order, List.isChain_singleton _, fun x hx y hy => ?_⟩
    obtain rfl : _ = y := by simpa using hy
    refine newStartTime_later ?_ now kind
    unfold keptStarts at hx
    split at hx
    · rw [List.getLast?_drop] at hx
      split at hx
      · cases hx
      · exact hx
    · exact hx

/-! ## The invariant, engine state by engine state (R87, R89, R93, R100, R101) -/

/-- What each engine state asks of timers, run-start time, attempt count and breach mark. -/
def Eng.Phase (e : Eng) : Prop :=
  match e.state with
  | .stopped => e.stateTimer = none ∧ e.stopHold = none ∧ e.runStart = none ∧ e.attempts < 3 ∧ e.breachMark = false
  | .cranking | .pause => e.stateTimer.isSome ∧ e.stopHold = none ∧ e.runStart = none ∧ e.attempts < 3
  | .warmup | .cooldown => e.stateTimer.isSome ∧ e.stopHold = none ∧ e.runStart.isSome ∧ e.attempts < 3
  | .running => e.stateTimer = none ∧ e.runStart.isSome ∧ e.attempts < 3
  | .lockout => e.stateTimer = none ∧ e.stopHold = none ∧ e.runStart = none ∧ e.attempts = 3 ∧ e.breachMark = false

theorem Eng.inv_iff (e : Eng) : e.Inv ↔ StartList e.starts ∧ e.Phase := by
  constructor
  · rintro ⟨hsize, horder, htimer, hhold, hrun, hattempts, hbreach⟩
    refine ⟨⟨hsize, horder⟩, ?_⟩
    unfold Eng.Phase
    cases hs : e.state <;> simp_all
  · rintro ⟨⟨hsize, horder⟩, hphase⟩
    unfold Eng.Phase at hphase
    cases hs : e.state <;> rw [hs] at hphase <;> constructor <;> simp_all

theorem Eng.Inv.starts_sound {e : Eng} (h : e.Inv) : StartList e.starts := ((Eng.inv_iff e).mp h).1

theorem Eng.Inv.phase {e : Eng} (h : e.Inv) : e.Phase := ((Eng.inv_iff e).mp h).2

/-- The marks and the SoC noted are none of what the invariant speaks of. -/
theorem Eng.Inv.with_marks {e : Eng} (h : e.Inv) (forced budgetMark : Bool) (lastSoc : Nat) :
    { e with forced := forced, budgetMark := budgetMark, lastSoc := lastSoc }.Inv :=
  (Eng.inv_iff _).mpr ((Eng.inv_iff e).mp h)

/-- Older starts may be dropped. -/
theorem Eng.Inv.with_suffix {e : Eng} (h : e.Inv) {l : List StartEntry} (hl : l <:+ e.starts) :
    { e with starts := l }.Inv :=
  (Eng.inv_iff _).mpr ⟨h.starts_sound.suffix hl, h.phase⟩

/-- The breach mark may be cleared. -/
theorem Eng.Inv.with_breach_and {e : Eng} (h : e.Inv) (b : Bool) : { e with breachMark := e.breachMark && b }.Inv := by
  refine (Eng.inv_iff _).mpr ⟨h.starts_sound, ?_⟩
  have hphase := h.phase
  unfold Eng.Phase at hphase ⊢
  cases hs : e.state <;> simp_all

/-! ### The operations -/

theorem prune_engInv {s : State} (h : s.eng.Inv) : (prune s).eng.Inv :=
  (h.with_suffix (List.dropWhile_suffix _)).with_marks _ _ _

theorem beginResult_engInv (x : ResultRecord) {s : State} (h : s.eng.Inv) : (beginResult x s).eng.Inv :=
  ((prune_engInv h).with_breach_and s.inQuiet).with_marks _ _ x.soc

theorem startEngine_engInv (kind : StartKind) {s : State} (h : s.eng.Inv)
    (hs : s.eng.state = .stopped ∨ s.eng.state = .pause) : (startEngine kind s).eng.Inv := by
  refine (Eng.inv_iff _).mpr ⟨by simpa using h.starts_sound.append kind s.now, ?_⟩
  have hphase := h.phase
  rcases hs with hs | hs <;> simp_all [Eng.Phase]

/-- An entry into STOPPED asks nothing of timers and marks, which it sets. -/
theorem stopEngine_engInv_of (cause : StopCause) {s : State} (hstarts : StartList s.eng.starts)
    (hattempts : s.eng.attempts < 3) : (stopEngine cause s).eng.Inv :=
  (Eng.inv_iff _).mpr ⟨hstarts, rfl, rfl, rfl, hattempts, rfl⟩

theorem stopEngine_engInv (cause : StopCause) {s : State} (h : s.eng.Inv) (hs : s.eng.state ≠ .lockout) :
    (stopEngine cause s).eng.Inv :=
  stopEngine_engInv_of cause h.starts_sound (h.attempts.2 hs)

theorem hotStop_engInv (cause : StopCause) {s : State} (h : s.eng.Inv) (hs : s.eng.state ≠ .lockout) :
    (hotStop cause s).eng.Inv := stopEngine_engInv cause h hs

theorem engineCaught_engInv {s : State} (h : s.eng.Inv) (hs : s.eng.state = .cranking ∨ s.eng.state = .pause) :
    (engineCaught s).eng.Inv := by
  refine (Eng.inv_iff _).mpr ⟨h.starts_sound, ?_⟩
  have hphase := h.phase
  rcases hs with hs | hs <;> simp_all [Eng.Phase]

/-- A failed crank or a stall whose attempt has been counted leads to PAUSE, or at the third to LOCKOUT. -/
theorem afterFailure_engInv (a : Nat) {s : State} (hstarts : StartList s.eng.starts) (hhold : s.eng.stopHold = none)
    (hrun : s.eng.runStart = none) (hattempts : s.eng.attempts ≤ 3) : (afterFailure a s).eng.Inv := by
  rw [afterFailure_eng]
  split
  · exact (Eng.inv_iff _).mpr ⟨hstarts, rfl, hhold, hrun, Nat.le_antisymm hattempts ‹_›, rfl⟩
  · exact (Eng.inv_iff _).mpr ⟨hstarts, rfl, hhold, hrun, Nat.lt_of_not_le ‹_›⟩

theorem stall_engInv (forced : Bool) {s : State} (h : s.eng.Inv) (hs : s.eng.state ≠ .lockout) :
    (stall forced s).eng.Inv :=
  afterFailure_engInv 1 h.starts_sound rfl rfl (h.attempts.2 hs)

theorem quietBreach_engInv (a : Nat) {s : State} (h : s.eng.Inv) (hs : s.eng.state ≠ .stopped)
    (hs' : s.eng.state ≠ .lockout) : (quietBreach a s).eng.Inv := by
  refine (Eng.inv_iff _).mpr ⟨by simpa using h.starts_sound, ?_⟩
  have hphase := h.phase
  rw [quietBreach_eng]
  unfold Eng.Phase at hphase ⊢
  cases e : s.eng.state <;> simp_all

theorem clearStopHold_engInv {s : State} (h : s.eng.Inv) : (clearStopHold s).eng.Inv := by
  refine (Eng.inv_iff _).mpr ⟨h.starts_sound, ?_⟩
  have hphase := h.phase
  rw [clearStopHold_eng]
  unfold Eng.Phase at hphase ⊢
  cases e : s.eng.state <;> simp_all

theorem enterCooldown_engInv {s : State} (h : s.eng.Inv) (hs : s.eng.state = .running) : (enterCooldown s).eng.Inv := by
  refine (Eng.inv_iff _).mpr ⟨h.starts_sound, ?_⟩
  have hphase := h.phase
  simp_all [Eng.Phase]

theorem resumeRunning_engInv {s : State} (h : s.eng.Inv) (hs : s.eng.state = .cooldown) : (resumeRunning s).eng.Inv := by
  refine (Eng.inv_iff _).mpr ⟨h.starts_sound, ?_⟩
  have hphase := h.phase
  simp_all [Eng.Phase]

/-- The stop-hold timer runs in RUNNING only. -/
theorem Eng.Inv.with_stopHold {e : Eng} (h : e.Inv) (hs : e.state = .running) (timer : Option PartTime) :
    { e with stopHold := timer }.Inv := by
  refine (Eng.inv_iff _).mpr ⟨h.starts_sound, ?_⟩
  have hphase := h.phase
  simp_all [Eng.Phase]

/-! ### A result taken -/

theorem evalStopped_engInv (x : ResultRecord) {s : State} (h : s.eng.Inv) (hs : s.eng.state = .stopped) :
    (evalStopped x s).eng.Inv := by
  have hmarked (forced : Bool) : (s.setEng { s.eng with forced := forced }).eng.Inv := h.with_marks forced _ _
  unfold evalStopped
  split
  · exact startEngine_engInv _ (hmarked true) (.inl hs)
  split
  · split
    · exact h
    split
    · rw [refuseByBudget_eng]; exact h.with_marks _ true _
    · exact startEngine_engInv _ (hmarked false) (.inl hs)
  · exact h

theorem evalCranking_engInv (x : ResultRecord) {s : State} (h : s.eng.Inv) (hs : s.eng.state = .cranking) :
    (evalCranking x s).eng.Inv := by
  have hmarked : (markForced (forcedCondition s x) s).eng.Inv := h.with_marks _ _ _
  have hstate : (markForced (forcedCondition s x) s).eng.state = .cranking := hs
  unfold evalCranking
  dsimp only
  generalize markForced (forcedCondition s x) s = m at hmarked hstate
  split
  · exact engineCaught_engInv hmarked (.inl hstate)
  split
  · split
    · exact quietBreach_engInv 1 hmarked (by simp [hstate]) (by simp [hstate])
    · exact stopEngine_engInv _ hmarked (by simp [hstate])
  · exact hmarked

theorem evalPause_engInv (x : ResultRecord) {s : State} (h : s.eng.Inv) (hs : s.eng.state = .pause) :
    (evalPause x s).eng.Inv := by
  have hmarked : (markForced (forcedCondition s x) s).eng.Inv := h.with_marks _ _ _
  unfold evalPause
  dsimp only
  split
  · exact engineCaught_engInv hmarked (.inr hs)
  · exact hmarked

theorem evalWarmup_engInv (x : ResultRecord) {s : State} (h : s.eng.Inv) (hs : s.eng.state = .warmup) :
    (evalWarmup x s).eng.Inv := by
  unfold evalWarmup
  split
  · exact stall_engInv _ h (by simp [hs])
  split
  · split
    · exact quietBreach_engInv 1 h (by simp [hs]) (by simp [hs])
    · exact hotStop_engInv _ h (by simp [hs])
  · exact h

theorem evalRunning_engInv (x : ResultRecord) {s : State} (h : s.eng.Inv) (hs : s.eng.state = .running) :
    (evalRunning x s).eng.Inv := by
  unfold evalRunning
  dsimp only
  split
  · exact stall_engInv _ h (by simp [hs])
  split
  · split
    · exact quietBreach_engInv 1 (clearStopHold_engInv h) (by simp [hs]) (by simp [hs])
    · exact hotStop_engInv _ h (by simp [hs])
  split
  · exact enterCooldown_engInv h hs
  split
  · split
    · exact h
    · exact h.with_stopHold hs _
  · exact clearStopHold_engInv h

theorem evalCooldown_engInv (x : ResultRecord) {s : State} (h : s.eng.Inv) (hs : s.eng.state = .cooldown) :
    (evalCooldown x s).eng.Inv := by
  have hresumed := resumeRunning_engInv h hs
  unfold evalCooldown
  split
  · exact stopEngine_engInv _ h (by simp [hs])
  split
  · split
    · exact quietBreach_engInv 1 hresumed (by simp) (by simp)
    · exact hresumed
  split
  · exact hotStop_engInv _ h (by simp [hs])
  split
  · exact hresumed
  · exact h

theorem engTakes_engInv (x : ResultRecord) {s : State} (h : s.eng.Inv) : (engTakes x s).eng.Inv := by
  have hbegun := beginResult_engInv x h
  unfold engTakes
  dsimp only
  split
  · exact evalStopped_engInv x hbegun ‹_›
  · exact evalCranking_engInv x hbegun ‹_›
  · exact evalPause_engInv x hbegun ‹_›
  · exact evalWarmup_engInv x hbegun ‹_›
  · exact evalRunning_engInv x hbegun ‹_›
  · exact evalCooldown_engInv x hbegun ‹_›
  · exact hbegun

theorem engTakesNext_engInv {s : State} (h : s.eng.Inv) : (engTakesNext s).eng.Inv := by
  unfold engTakesNext
  split
  · exact h
  · exact engTakes_engInv _ h

/-! ### The timers, HALT and FAULT_CLEAR -/

/-- An expiry keeps the invariant where what it does keeps it in the timer's own engine state. -/
theorem stateTimerExpiry_engInv (st : EngState) {act : State → State} {s : State} (h : s.eng.Inv)
    (hact : ∀ s, s.eng.Inv → s.eng.state = st → (act s).eng.Inv) : (stateTimerExpiry st act s).eng.Inv := by
  unfold stateTimerExpiry
  split
  · rename_i hdue
    simp only [Bool.and_eq_true, beq_iff_eq] at hdue
    exact hact _ (prune_engInv h) hdue.1
  · exact h

theorem crankTimerAct_engInv {s : State} (h : s.eng.Inv) (hs : s.eng.state = .cranking) :
    (execCrankTimerExpiry.act s).eng.Inv := by
  have hphase := h.phase
  simp only [Eng.Phase, hs] at hphase
  obtain ⟨-, hhold, hrun, hattempts⟩ := hphase
  exact afterFailure_engInv 0 h.starts_sound hhold hrun hattempts

theorem pauseTimerAct_engInv {s : State} (h : s.eng.Inv) (hs : s.eng.state = .pause) :
    (execPauseTimerExpiry.act s).eng.Inv := by
  unfold execPauseTimerExpiry.act
  split
  · exact startEngine_engInv _ h (.inr hs)
  · exact stopEngine_engInv _ h (by simp [hs])

theorem warmTimerAct_engInv {s : State} (h : s.eng.Inv) (hs : s.eng.state = .warmup) :
    (execWarmTimerExpiry.act s).eng.Inv := by
  have hphase := h.phase
  simp only [Eng.Phase, hs] at hphase
  obtain ⟨-, -, hrun, -⟩ := hphase
  exact (Eng.inv_iff _).mpr ⟨h.starts_sound, rfl, hrun, Nat.zero_lt_succ 2⟩

theorem engHalt_engInv {s : State} (h : s.eng.Inv) : (engHalt s).eng.Inv := by
  have hpruned := prune_engInv h
  have hstarts := hpruned.starts_sound
  have hphase := hpruned.phase
  have hattempts := hpruned.attempts.2
  unfold engHalt
  dsimp only
  split <;> rename_i hs <;> rw [State.setEng_eng] at hs <;> simp only at hs
  case h_1 | h_2 =>
    refine (Eng.inv_iff _).mpr ⟨hstarts, ?_⟩
    simp_all [Eng.Phase]
  all_goals exact stopEngine_engInv_of _ hstarts (hattempts (by rw [hs]; decide))

theorem faultClearServe_engInv (f : Frame) {s : State} (h : s.eng.Inv) : (execFaultClear.serve f s).eng.Inv := by
  have hpruned := prune_engInv h
  unfold execFaultClear.serve
  split
  · dsimp only
    split
    · exact stopEngine_engInv_of .faultCleared hpruned.starts_sound (Nat.zero_lt_succ 2)
    all_goals exact hpruned
  · exact h

theorem haltServe_engInv (f : Frame) {s : State} (h : s.eng.Inv) : (execHalt.serve f s).eng.Inv := by
  unfold execHalt.serve
  split
  · refine engHalt_engInv ?_
    simpa using h
  all_goals exact h

/-! ### Every command and every step -/

theorem Eng.reset_inv : Eng.reset.Inv :=
  (Eng.inv_iff _).mpr ⟨⟨Nat.zero_le _, trivial⟩, rfl, rfl, rfl, Nat.zero_lt_succ 2, rfl⟩

/-- A power-on, a RESETN and a RESTART leave ENG at its reset values (Table 4-3). -/
theorem restartEffect_eng (s : State) : (restartEffect s).eng = Eng.reset := by simp [restartEffect]

theorem enterLoading_resetValues_eng (straps : Straps) (s : State) :
    (enterLoading (resetValues straps s)).eng = Eng.reset := by simp [resetValues]

theorem takeRequest_engInv {s : State} (type : Byte) (ready : Frame → State → Bool) {serve : Frame → State → State}
    (hserve : ∀ f s, s.eng.Inv → (serve f s).eng.Inv) (h : s.eng.Inv) : (takeRequest type ready serve s).eng.Inv :=
  takeRequest_preserves (P := fun s => s.eng.Inv) type ready (fun _ _ h => h) hserve h

theorem takeStartsQuery_engInv (topic : Nat) (content : State → List Byte) {s : State} (h : s.eng.Inv) :
    (takeQuery topic noWait prune content s).eng.Inv := by
  rcases takeQuery_cases topic noWait prune content s with e | ⟨f, rest, -, -, ⟨-, e⟩ | ⟨-, -, e⟩⟩ <;> rw [e]
  · exact h
  · exact h
  · exact prune_engInv h

/-- Every command keeps the invariant. -/
theorem exec_engInv (i : Instr) {s t : State} (h : s.eng.Inv) (he : exec i s = .next t) : t.eng.Inv := by
  by_cases hi : changesEng i = false
  · rw [eng_kept i hi s t he]; exact h
  cases i
  case powerOn straps | resetn straps =>
    cases he
    rw [enterLoading_resetValues_eng]
    exact Eng.reset_inv
  case engResultEvaluation => cases he; exact engTakesNext_engInv h
  case crankTimerExpiry => cases he; exact stateTimerExpiry_engInv _ h fun _ => crankTimerAct_engInv
  case pauseTimerExpiry => cases he; exact stateTimerExpiry_engInv _ h fun _ => pauseTimerAct_engInv
  case warmTimerExpiry => cases he; exact stateTimerExpiry_engInv _ h fun _ => warmTimerAct_engInv
  case cooldownTimerExpiry =>
    cases he
    exact stateTimerExpiry_engInv _ h fun _ h hs => stopEngine_engInv _ h (by simp [hs])
  case stopHoldExpiry =>
    cases he
    split
    · rename_i hdue
      simp only [Bool.and_eq_true, beq_iff_eq] at hdue
      exact enterCooldown_engInv (prune_engInv h) hdue.1
    · exact h
  case halt => cases he; exact takeRequest_engInv _ _ (fun f _ => haltServe_engInv f) h
  case faultClear => cases he; exact takeRequest_engInv _ _ (fun f _ => faultClearServe_engInv f) h
  case queryStartsA | queryStartsB => cases he; exact takeStartsQuery_engInv _ _ h
  case transmitEnd =>
    simp only [exec, execTransmitEnd, Host.Outcome.next.injEq] at he
    subst he
    split
    · exact h
    · split
      · rw [restartEffect_eng]; exact Eng.reset_inv
      · exact h
  all_goals exact absurd rfl hi

/-- Settles O58: every command keeps the invariant, and a millisecond leaves ENG alone. -/
theorem engineKept : Obligations.EngineKept := by
  intro s t h he
  unfold step at he
  split at he
  · cases he; exact h
  · refine exec_engInv _ ?_ he
    exact h

/-! ## What an entry into CRANKING adds (R83) -/

/-- An entry into CRANKING between two states adds one start, and sends its increment. -/
def StartAdded (s t : State) : Prop :=
  ∃ (kept : List StartEntry) (new : StartEntry),
    t.eng.starts = kept ++ [new] ∧ kept <:+ s.eng.starts
      ∧ t.mail.incIn = s.mail.incIn ++ [(4, if new.kind = .forcedOver then 3 else 1)]

/-- From `s`, `t` is in CRANKING by a start, or as `s` was, or not at all. -/
def CrankingByStart (s t : State) : Prop := s.eng.state ≠ .cranking → t.eng.state = .cranking → StartAdded s t

theorem CrankingByStart.of_ne {s t : State} (h : t.eng.state ≠ .cranking) : CrankingByStart s t :=
  fun _ ht => absurd ht h

theorem startWeight_eq (kind : StartKind) : startWeight kind = if kind = .forcedOver then 3 else 1 := by
  cases kind <;> rfl

/-- A start adds its entry to a list that older entries may have left, and its increment to those that wait. -/
theorem startEngine_added (kind : StartKind) {s t : State} (hstarts : t.eng.starts <:+ s.eng.starts)
    (hmail : t.mail.incIn = s.mail.incIn) : StartAdded s (startEngine kind t) :=
  ⟨keptStarts t.eng.starts, ⟨newStartTime t.now t.eng.starts, kind⟩, by simp [appendStart_eq],
    (keptStarts_suffix _).trans hstarts, by rw [startEngine_incIn, hmail, startWeight_eq]⟩

theorem evalStopped_crankingByStart (x : ResultRecord) {s t : State} (hs : t.eng.state = .stopped)
    (hstarts : t.eng.starts <:+ s.eng.starts) (hmail : t.mail.incIn = s.mail.incIn) :
    CrankingByStart s (evalStopped x t) := by
  have hstays : CrankingByStart s t := .of_ne (by simp [hs])
  unfold evalStopped
  split
  · exact fun _ _ => startEngine_added _ hstarts hmail
  split
  · split
    · exact hstays
    split
    · exact .of_ne (by simp [hs])
    · exact fun _ _ => startEngine_added _ hstarts hmail
  · exact hstays

theorem evalPause_state (x : ResultRecord) {s : State} (hs : s.eng.state = .pause) :
    (evalPause x s).eng.state ≠ .cranking := by
  unfold evalPause
  dsimp only
  split <;> simp [hs]

theorem stall_state (forced : Bool) (s : State) : (stall forced s).eng.state ≠ .cranking := by
  unfold stall
  dsimp only
  rw [afterFailure_eng]
  split <;> simp

theorem evalWarmup_state (x : ResultRecord) {s : State} (hs : s.eng.state = .warmup) :
    (evalWarmup x s).eng.state ≠ .cranking := by
  unfold evalWarmup
  (repeat' split) <;> simp [hs, stall_state]

theorem evalRunning_state (x : ResultRecord) {s : State} (hs : s.eng.state = .running) :
    (evalRunning x s).eng.state ≠ .cranking := by
  unfold evalRunning
  dsimp only
  (repeat' split) <;> simp [hs, stall_state]

theorem evalCooldown_state (x : ResultRecord) {s : State} (hs : s.eng.state = .cooldown) :
    (evalCooldown x s).eng.state ≠ .cranking := by
  unfold evalCooldown
  (repeat' split) <;> simp [hs]

/-- A result leads to CRANKING by a start in STOPPED only. -/
theorem engTakes_crankingByStart (x : ResultRecord) {s t : State} (ht : t.eng = s.eng)
    (hmail : t.mail.incIn = s.mail.incIn) : CrankingByStart s (engTakes x t) := by
  have hstate : (beginResult x t).eng.state = s.eng.state := by rw [beginResult_eng, ← ht]; rfl
  have hstarts : (beginResult x t).eng.starts <:+ s.eng.starts := ht ▸ List.dropWhile_suffix _
  unfold engTakes
  dsimp only
  split <;> rename_i hs
  · exact evalStopped_crankingByStart x hs hstarts hmail
  · exact fun hne => absurd (hstate.symm.trans hs) hne
  · exact .of_ne (evalPause_state x hs)
  · exact .of_ne (evalWarmup_state x hs)
  · exact .of_ne (evalRunning_state x hs)
  · exact .of_ne (evalCooldown_state x hs)
  · exact .of_ne (by rw [hs]; decide)

theorem engHalt_state (s : State) (hs : s.eng.state ≠ .cranking) : (engHalt s).eng.state ≠ .cranking := by
  unfold engHalt
  dsimp only
  split <;> simp [hs]

theorem faultClearServe_state (f : Frame) (s : State) (hs : s.eng.state ≠ .cranking) :
    (execFaultClear.serve f s).eng.state ≠ .cranking := by
  unfold execFaultClear.serve
  dsimp only
  (repeat' split) <;> simp [hs]

theorem haltServe_state (f : Frame) (s : State) (hs : s.eng.state ≠ .cranking) :
    (execHalt.serve f s).eng.state ≠ .cranking := by
  unfold execHalt.serve
  split
  · exact engHalt_state _ (by simpa using hs)
  all_goals exact hs

/-- A request whose service does not lead to CRANKING does not lead there. -/
theorem takeRequest_crankingByStart {s : State} (type : Byte) (ready : Frame → State → Bool)
    {serve : Frame → State → State} (hserve : ∀ f s, s.eng.state ≠ .cranking → (serve f s).eng.state ≠ .cranking) :
    CrankingByStart s (takeRequest type ready serve s) := fun hs ht =>
  absurd ht (takeRequest_preserves (P := fun s => s.eng.state ≠ .cranking) type ready (fun _ _ h => h) hserve hs)

theorem stateTimerExpiry_crankingByStart (st : EngState) {act : State → State} {s : State}
    (hact : s.eng.state = st → CrankingByStart s (act (prune s))) : CrankingByStart s (stateTimerExpiry st act s) := by
  unfold stateTimerExpiry
  split
  · rename_i hdue
    simp only [Bool.and_eq_true, beq_iff_eq] at hdue
    exact hact hdue.1
  · exact fun hne he => absurd he hne

/-- R83: whatever the command, an entry into CRANKING is a start. -/
theorem exec_crankingByStart (i : Instr) {s t : State} (he : exec i s = .next t) : CrankingByStart s t := by
  by_cases hi : changesEng i = false
  · rw [CrankingByStart, eng_kept i hi s t he]
    exact fun hne he => absurd he hne
  cases i
  case powerOn straps | resetn straps =>
    cases he
    refine .of_ne ?_
    rw [enterLoading_resetValues_eng]
    decide
  case engResultEvaluation =>
    cases he
    unfold engTakesNext
    split
    · exact fun hne he => absurd he hne
    · exact engTakes_crankingByStart _ rfl rfl
  case crankTimerExpiry =>
    cases he
    exact stateTimerExpiry_crankingByStart _ fun hs hne => absurd hs hne
  case pauseTimerExpiry =>
    cases he
    refine stateTimerExpiry_crankingByStart _ fun hs => ?_
    unfold execPauseTimerExpiry.act
    split
    · exact fun _ _ => startEngine_added _ (List.dropWhile_suffix _) rfl
    · exact .of_ne (by simp)
  case warmTimerExpiry =>
    cases he
    exact stateTimerExpiry_crankingByStart _ fun _ => .of_ne (by simp [execWarmTimerExpiry.act])
  case cooldownTimerExpiry => cases he; exact stateTimerExpiry_crankingByStart _ fun _ => .of_ne (by simp)
  case stopHoldExpiry =>
    cases he
    split
    · exact .of_ne (by simp)
    · exact fun hne he => absurd he hne
  case halt => cases he; exact takeRequest_crankingByStart _ _ haltServe_state
  case faultClear => cases he; exact takeRequest_crankingByStart _ _ faultClearServe_state
  case queryStartsA | queryStartsB =>
    cases he
    intro hne he
    exact absurd ((takeQuery_keeps (fun s => s.eng.state) _ noWait prune _ s (fun _ _ => rfl) fun _ => rfl).symm.trans he) hne
  case transmitEnd =>
    simp only [exec, execTransmitEnd, Host.Outcome.next.injEq] at he
    subst he
    split
    · exact fun hne he => absurd he hne
    · split
      · exact .of_ne (by rw [restartEffect_eng]; decide)
      · exact fun hne he => absurd he hne
  all_goals exact absurd rfl hi

/-! ## WRU's side of it (R134) -/

/-- Setting the lamp touches no counter. -/
@[simp] theorem setLamp_counter (s : State) (c : Nat) : (setLamp s).wru.counter c = s.wru.counter c := by
  rcases setLamp_wru_cases s with e | ⟨p, e⟩ <;> rw [e]
  simp [Wru.counter]

/-- Whole units enter a value up to the largest, and the mark is set beyond it (R134). -/
theorem Counter.addUnits_eq (k : Counter) (units : Nat) :
    k.addUnits units =
      ({ k with value := min 4294967295 (k.value + units), saturated := k.saturated || decide (4294967295 < k.value + units) },
        min 4294967295 (k.value + units) - k.value) := by
  unfold Counter.addUnits Config.counterMax
  split
  · rename_i h
    rw [Nat.min_eq_left (Nat.le_of_lt h), decide_eq_true h, Bool.or_true]
  · rename_i h
    rw [Nat.min_eq_right (Nat.le_of_not_lt h), decide_eq_false h, Bool.or_false, Nat.add_sub_cancel_left]

theorem Counter.addUnits_value (k : Counter) (units : Nat) :
    (k.addUnits units).1.value = min 4294967295 (k.value + units) := by
  unfold Counter.addUnits Config.counterMax
  split <;> dsimp only <;> omega

/-- An increment enters the value of its counter, unless that is saturated. -/
theorem wruTakesIncrement_value {c : Nat} (hc : c < 8) (n : Nat) (s : State) :
    ((wruTakesIncrement c n s).wru.counter c).value =
      if (s.wru.counter c).saturated then (s.wru.counter c).value
      else min 4294967295 ((s.wru.counter c).value + n) := by
  unfold wruTakesIncrement feedCount
  dsimp only
  rw [setLamp_counter]
  split
  · rfl
  · rw [putCounter_wru hc, Wru.counter_addTally, Wru.counter_setCounter _ _ _ _ hc, if_pos rfl]
    exact Counter.addUnits_value _ _

/-- Settles O38: the invariant holds the list, every entry into CRANKING is a start, and WRU takes what a start sends. -/
theorem startAccounting : Obligations.StartAccounting := by
  refine ⟨fun c s t h he => ⟨(exec_engInv c h he).size, (exec_engInv c h he).order, exec_crankingByStart c he⟩,
    fun s n rest hin => ⟨wruTakesNextIncrement s, rfl, ?_⟩⟩
  simp only [wruTakesNextIncrement, hin]
  exact wruTakesIncrement_value (by decide) n _

end Sys2Proof.Machine
end

section
/-!
PROOFS. The Engine Scheduler's events: a start, a stop, a catch and a stall (R86 to R100), the results taken in each engine state
(R78 to R97), the timers (R101) and FAULT_CLEAR (R91).
-/
namespace Sys2Proof.Machine

/-! ## A start, a stop, a catch and a stall (Tables 4-4 and 4-5) -/

/-- Equal states are equal outcomes. -/
theorem next_congr {s t : State} (h : s = t) : (Host.Outcome.next s : Out) = .next t := congrArg _ h

theorem StartKind.code_eq (kind : StartKind) :
    kind.code = match kind with | .normal => 0 | .forced => 1 | .forcedOver => 2 | .retry => 3 := by
  cases kind <;> rfl

theorem StopCause.code_eq (cause : StopCause) :
    cause.code = match cause with
      | .cooldownEnd => 0 | .quietZone => 1 | .haltHot => 2 | .halted => 3 | .crankAbandoned => 4 | .engineOff => 5
      | .faultCleared => 6 := by
  cases cause <;> rfl

@[simp] theorem raise_inQuiet (src : Block) (k : EventKind) (a b : Nat) (s : State) :
    (raise src k a b s).inQuiet = s.inQuiet := rfl
@[simp] theorem setEng_inQuiet (s : State) (x : Eng) : (s.setEng x).inQuiet = s.inQuiet := rfl
@[simp] theorem sendIncrement_inQuiet (c n : Nat) (s : State) : (sendIncrement c n s).inQuiet = s.inQuiet := rfl

/-- A start, before a QUIET_BREACH. -/
def State.started (s : State) (kind : StartKind) : State :=
  State.raising
    { s with
      eng :=
        { s.eng with
          state := .cranking, stateTimer := some (after s.now s.cal.crankTimeout)
          starts := appendStart kind s.now s.eng.starts, runStart := none }
      mail := { s.mail with incIn := s.mail.incIn ++ [(4, startWeight kind)] } }
    .eng [(.engineStart, kind.code, (appendStart kind s.now s.eng.starts).length)]

theorem startEngine_eq (kind : StartKind) (s : State) :
    startEngine kind s = if s.rte.zone = .quiet then quietBreach 0 (s.started kind) else s.started kind := by
  simp only [← State.inQuiet_iff]
  rfl

/-- The whole seconds of a run that is stopped, none without a run (R100). -/
theorem runSeconds_eq (s : State) :
    min 65535 (runMillis s / 1000) =
      match s.eng.runStart with
      | none => 0
      | some r => min 65535 ((s.mdc.partTime - r).toNat / 1000) := by
  unfold runMillis
  cases s.eng.runStart with
  | none => simp
  | some r => rfl

theorem stopEngine_eq (cause : StopCause) (s : State) :
    stopEngine cause s =
      State.raising
        { s with
          eng :=
            { s.eng with
              state := .stopped, stateTimer := none, stopHold := none, runStart := none, breachMark := false } }
        .eng
        [(.engineStop,
          match cause with
          | .cooldownEnd => 0 | .quietZone => 1 | .haltHot => 2 | .halted => 3 | .crankAbandoned => 4 | .engineOff => 5
          | .faultCleared => 6,
          match s.eng.runStart with
          | none => 0
          | some r => min 65535 ((s.mdc.partTime - r).toNat / 1000))] := by
  rw [stopEngine, runSeconds_eq, StopCause.code_eq]
  rfl

/-- ENGINE_RUNNING reports the milliseconds since the newest start (R88). -/
theorem engineCaught_eq (s : State) :
    engineCaught s =
      State.raising
        { s with
          eng :=
            { s.eng with
              state := .warmup, stateTimer := some (after s.now s.cal.warmTime), runStart := some s.now, forced := false } }
        .eng
        [(.engineRunning, s.eng.attempts,
          match s.eng.starts.getLast? with
          | none => min 65535 (Config.sinceStart s.mdc.partTime.toNat)
          | some e => min 65535 (s.mdc.partTime - e.time).toNat)] := by
  unfold engineCaught
  cases s.eng.starts.getLast? <;> rfl

/-- A stall of an engine that ran, before what follows the failure. -/
theorem stall_eq (forced : Bool) {s : State} {r : PartTime} (hr : s.eng.runStart = some r) :
    stall forced s =
      afterFailure 1
        (State.raising
          { s with
            eng :=
              { s.eng with
                stateTimer := none, stopHold := none, runStart := none, attempts := s.eng.attempts + 1, forced } }
          .eng [(.engineStall, s.eng.attempts + 1, min 65535 (s.mdc.partTime - r).toNat)]) := by
  have hrun : runMillis s = (s.mdc.partTime - r).toNat := by rw [runMillis, hr]; rfl
  unfold stall
  dsimp only
  rw [hrun]
  rfl

/-- What follows a stall, in the two cases of the attempt count (R93). -/
theorem afterFailure_of_three {s : State} (a : Nat) (h : 3 ≤ s.eng.attempts) :
    afterFailure a s =
      State.raising
        { s with eng := { s.eng with state := .lockout, stateTimer := none, forced := false, breachMark := false } } .eng
        [(.engineLockout, a, s.eng.starts.length)] := if_pos h

theorem afterFailure_of_fewer {s : State} (a : Nat) (h : ¬ 3 ≤ s.eng.attempts) :
    afterFailure a s =
      { s with eng := { s.eng with state := .pause, stateTimer := some (after s.now s.cal.crankPause) } } := if_neg h

/-- Settles O32: each operation, written out; the codes are those of the two tables. -/
theorem engineSteps : Obligations.EngineSteps := by
  refine ⟨fun kind s => ?_, fun cause s => ⟨stopEngine_eq cause s, stopEngine_eq cause (sendIncrement 6 1 s)⟩,
    fun forced s => ⟨engineCaught_eq s, fun r hr => ?_⟩⟩
  · intro kept time starts weight breach
    have hstarts : appendStart kind s.now s.eng.starts = starts := rfl
    have hweight : startWeight kind = weight := startWeight_eq kind
    rw [startEngine_eq, State.started, hstarts, hweight, StartKind.code_eq]
    by_cases hq : s.rte.zone = .quiet
    · by_cases hb : s.eng.breachMark = true <;> simp [breach, hq, hb, quietBreach_eq, State.raising] <;> trivial
    · simp [breach, hq]
      rfl
  · intro stalled event
    rw [stall_eq forced hr]
    by_cases h3 : 3 ≤ s.eng.attempts + 1
    · refine (afterFailure_of_three 1 h3).trans ?_
      rw [if_pos h3]
      simp [State.raising, stalled, event]
    · rw [if_neg h3]
      exact afterFailure_of_fewer 1 h3

/-! ## A result taken (R78 to R97) -/

/-- What the quiet distance is compared with: whole metres, none where none is ahead (R127). -/
theorem quietWithin_eq (s : State) (limit : Nat) :
    quietWithin s.quietMetres limit =
      ((s.rte.look.bind Lookahead.qd).map fun mm => min 65534 (mm / 1000)).any fun m => decide (m < limit) := by
  unfold State.quietMetres Rte.offered quietWithin quietMetres
  cases s.rte.look with
  | none => rfl
  | some l => cases hq : l.qd <;> simp [hq]

theorem forcedCondition_iff (s : State) (x : ResultRecord) : forcedCondition s x = true ↔ x.soc < s.cal.socHard :=
  decide_eq_true_iff

theorem startWant_iff (s : State) (x : ResultRecord) :
    startWant s x = true ↔
      x.soc < s.cal.socHard ∨ s.rte.zone = .charge
        ∨ (x.soc : Int) < (s.rte.offered s.cal).socTarget - s.cal.hystOn ∨ x.flags.tractionLimited = true := by
  simp [startWant, forcedCondition, or_assoc]

theorem quietBlock_iff (s : State) :
    quietBlock s = true ↔ s.rte.zone = .quiet ∨ quietWithin s.quietMetres s.cal.minRunDist = true := by
  simp [quietBlock, State.inQuiet]

theorem budgetReached_iff (s : State) : budgetReached s = true ↔ s.cal.startBudget ≤ s.eng.starts.length :=
  decide_eq_true_iff

/-- The run has lasted at least min_run (R95). -/
theorem minRun_iff (s : State) :
    (s.eng.runStart.isSome && decide (s.cal.minRun ≤ runMillis s)) = true ↔
      ∃ r, s.eng.runStart = some r ∧ s.cal.minRun ≤ elapsed s.mdc.partTime r := by
  unfold runMillis
  cases s.eng.runStart with
  | none => simp
  | some r =>
    simp only [Option.isSome_some, Bool.true_and, decide_eq_true_eq, Option.some.injEq, exists_eq_left']
    exact Iff.rfl

theorem stopEligible_iff (x : ResultRecord) (s : State) :
    stopEligible x s = true ↔
      (x.soc : Int) > (s.rte.offered s.cal).socTarget + s.cal.hystOff ∧ x.flags.tractionLimited = false
        ∧ s.rte.zone ≠ .charge ∧ (s.wru.counter 4).level ≠ .limit
        ∧ (∃ r, s.eng.runStart = some r ∧ s.cal.minRun ≤ elapsed s.mdc.partTime r)
        ∧ ¬ s.cal.startBudget ≤ s.eng.starts.length := by
  rw [← minRun_iff, ← budgetReached_iff]
  have hsoc : (s.rte.offered s.cal).socTarget + s.cal.hystOff < x.soc ↔
      (x.soc : Int) > (s.rte.offered s.cal).socTarget + s.cal.hystOff := by omega
  simp [stopEligible, hsoc, and_assoc]

/-- The beginning of an evaluation, as the claims write it. -/
theorem beginResult_eq (s : State) (x : ResultRecord) (rest : List ResultRecord) :
    beginResult x (s.setMail { s.mail with engIn := rest }) = s.resultBegun x rest := rfl

/-- The command takes the oldest record that waits, and acts on the engine state. -/
theorem exec_engResultEvaluation {s : State} {x : ResultRecord} {rest : List ResultRecord} (h : s.mail.engIn = x :: rest) :
    exec .engResultEvaluation s = .next (engTakes x (s.setMail { s.mail with engIn := rest })) := by
  change Host.Outcome.next (engTakesNext s) = _
  rw [engTakesNext, h]

section
variable {s : State} {x : ResultRecord} {rest : List ResultRecord} (h : s.mail.engIn = x :: rest)
include h

theorem exec_result_stopped (hs : s.eng.state = .stopped) :
    exec .engResultEvaluation s = .next (evalStopped x (s.resultBegun x rest)) := by
  rw [exec_engResultEvaluation h, engTakes, beginResult_eq]
  simp [State.resultBegun, hs]

theorem exec_result_lockout (hs : s.eng.state = .lockout) : exec .engResultEvaluation s = .next (s.resultBegun x rest) := by
  rw [exec_engResultEvaluation h, engTakes, beginResult_eq]
  simp [State.resultBegun, hs]

theorem exec_result_cranking (hs : s.eng.state = .cranking) :
    exec .engResultEvaluation s = .next (evalCranking x (s.resultBegun x rest)) := by
  rw [exec_engResultEvaluation h, engTakes, beginResult_eq]
  simp [State.resultBegun, hs]

theorem exec_result_pause (hs : s.eng.state = .pause) :
    exec .engResultEvaluation s = .next (evalPause x (s.resultBegun x rest)) := by
  rw [exec_engResultEvaluation h, engTakes, beginResult_eq]
  simp [State.resultBegun, hs]

theorem exec_result_warmup (hs : s.eng.state = .warmup) :
    exec .engResultEvaluation s = .next (evalWarmup x (s.resultBegun x rest)) := by
  rw [exec_engResultEvaluation h, engTakes, beginResult_eq]
  simp [State.resultBegun, hs]

theorem exec_result_running (hs : s.eng.state = .running) :
    exec .engResultEvaluation s = .next (evalRunning x (s.resultBegun x rest)) := by
  rw [exec_engResultEvaluation h, engTakes, beginResult_eq]
  simp [State.resultBegun, hs]

theorem exec_result_cooldown (hs : s.eng.state = .cooldown) :
    exec .engResultEvaluation s = .next (evalCooldown x (s.resultBegun x rest)) := by
  rw [exec_engResultEvaluation h, engTakes, beginResult_eq]
  simp [State.resultBegun, hs]

end

/-- A start refused by the budget raises BUDGET_EXHAUSTED once (R82). -/
theorem refuseByBudget_eq (s : State) :
    refuseByBudget s =
      if s.eng.budgetMark then s
      else
        State.raising { s with eng := { s.eng with budgetMark := true } } .eng
          [(.budgetExhausted, s.eng.starts.length,
            match s.eng.starts.head? with
            | none => 0
            | some e => (s.cal.startWindow * 60000 - elapsed s.mdc.partTime e.time + 999) / 1000)] := by
  unfold refuseByBudget
  cases s.eng.starts.head? <;> rfl

/-- Settles O33: the branches of the evaluation in STOPPED, under their conditions. -/
theorem stoppedResult : Obligations.StoppedResult := by
  intro s x rest h b qd within forced want block reachedBudget
  have hforced : forcedCondition b x = true ↔ forced := forcedCondition_iff b x
  have hwant : startWant b x = true ↔ want := startWant_iff b x
  have hblock : quietBlock b = true ↔ block := by
    rw [quietBlock_iff, quietWithin_eq]
    exact Iff.rfl
  have hbudget : budgetReached b = true ↔ reachedBudget := budgetReached_iff b
  refine ⟨exec_result_lockout h, fun hs => ?_⟩
  rw [exec_result_stopped h hs]
  refine ⟨fun hf => ?_, fun hn => ?_, fun hf hw hb hr => ?_, fun hf hw hb hr => ?_⟩
  · rw [evalStopped, if_pos (hforced.mpr hf), if_congr hbudget rfl rfl]
    rfl
  · have hf : ¬ forced := by
      rcases hn with hn | hn
      · exact fun hf => hn (.inl hf)
      · exact hn.1
    rw [evalStopped, if_neg (mt hforced.mp hf)]
    by_cases hw : want
    · rw [if_pos (hwant.mpr hw), if_pos (hblock.mpr (hn.resolve_left (not_not_intro hw)).2)]
    · rw [if_neg (mt hwant.mp hw)]
  · rw [evalStopped, if_neg (mt hforced.mp hf), if_pos (hwant.mpr hw), if_neg (mt hblock.mp hb), if_neg (mt hbudget.mp hr)]
    rfl
  · rw [evalStopped, if_neg (mt hforced.mp hf), if_pos (hwant.mpr hw), if_neg (mt hblock.mp hb), if_pos (hbudget.mpr hr)]
    exact congrArg _ (refuseByBudget_eq b)

/-- A QUIET_BREACH of an engine that is kept running, with the SoC of the result just begun (R87). -/
theorem quietBreach_begun {s : State} {x : ResultRecord} (h : s.eng.lastSoc = x.soc) :
    quietBreach 1 s =
      if s.eng.breachMark then s
      else State.raising { s with eng := { s.eng with breachMark := true } } .eng [(.quietBreach, 1, x.soc)] := by
  rw [quietBreach_eq, h]

/-- Settles O34: the branches of the evaluations in CRANKING and in PAUSE. -/
theorem crankingResult : Obligations.CrankingResult := by
  intro s x rest h b forcedMark m
  have hm : markForced (forcedCondition b x) b = m := rfl
  refine ⟨fun hs => ?_, fun hs => ?_⟩
  · rw [exec_result_cranking h hs, evalCranking, hm]
    by_cases hrun : x.eRun = true
    · simp only [hrun, if_true]
    · simp only [hrun]
      by_cases hq : s.rte.zone = .quiet
      · have hin : m.inQuiet = true := (State.inQuiet_iff m).mpr hq
        have hbreach := quietBreach_begun (s := m) (x := x) rfl
        by_cases hf : forcedMark = true
        · have hme : m.eng.forced = true := hf
          by_cases hb : m.eng.breachMark = true
          · have hb' : b.eng.breachMark = true := hb
            simp [hin, hme, hq, hf, hbreach, hb, hb']
          · have hb' : b.eng.breachMark = false := by simpa using hb
            simp [hin, hme, hq, hf, hbreach, hb, hb']
        · have hme : ¬ m.eng.forced = true := hf
          simp [hin, hme, hq, hf]
      · have hin : ¬ m.inQuiet = true := mt (State.inQuiet_iff m).mp hq
        simp [hin, hq]
  · rw [exec_result_pause h hs, evalPause, hm]

/-- Settles O35: the branches of the evaluations of an engine that runs, under their conditions. -/
theorem runningResult : Obligations.RunningResult := by
  intro s x rest h b qd within forced quiet target want block near eligible breached unheld resumed answers
  have hforced : forcedCondition b x = true ↔ forced := forcedCondition_iff b x
  have hwant : startWant b x = true ↔ want := startWant_iff b x
  have hquiet : b.inQuiet = true ↔ quiet := State.inQuiet_iff b
  have hblock : quietBlock b = true ↔ block := by
    rw [quietBlock_iff, quietWithin_eq]
    exact Iff.rfl
  have hnear : prestop b = true ↔ near := by
    rw [prestop, quietWithin_eq]
    exact Iff.rfl
  have hstop : stopEligible x b = true ↔ eligible := stopEligible_iff x b
  have hbreach (t : State) (ht : t.eng.lastSoc = x.soc) : quietBreach 1 t = breached t := quietBreach_begun ht
  refine ⟨fun hs => ?_, fun hs => ?_, fun hs => ?_⟩
  · have hrun : _ = Host.Outcome.next (evalWarmup x b) := exec_result_warmup h hs
    refine ⟨fun he => ?_, fun he hq hf => ?_, fun he hq hf => ?_, fun he hq => ?_⟩
    · exact hrun.trans (by simp only [evalWarmup, he]; rfl)
    · exact hrun.trans (by simp [evalWarmup, he, hquiet.mpr hq, mt hforced.mp hf])
    · exact hrun.trans (by simp [evalWarmup, he, hquiet.mpr hq, hforced.mpr hf, hbreach b rfl])
    · exact hrun.trans (by simp [evalWarmup, he, mt hquiet.mp hq])
  · have hrun : _ = Host.Outcome.next (evalRunning x b) := exec_result_running h hs
    refine ⟨fun he => ?_, fun he hq hf => ?_, fun he hq hf => ?_, fun he hq hn hf => ?_, fun he hq hn hel => ?_,
      fun he hq hn hel => ?_⟩
    · exact hrun.trans (by simp only [evalRunning, he]; rfl)
    · exact hrun.trans (by simp [evalRunning, he, hquiet.mpr hq, mt hforced.mp hf])
    · exact hrun.trans (by simp [evalRunning, he, hquiet.mpr hq, hforced.mpr hf, ← hbreach unheld rfl]; rfl)
    · exact hrun.trans (by simp [evalRunning, he, mt hquiet.mp hq, hnear.mpr hn, mt hforced.mp hf]; rfl)
    · have hn' : (prestop b && !forcedCondition b x) ≠ true := by
        simpa [hnear, hforced, ← Bool.not_eq_true] using hn
      refine hrun.trans (congrArg _ ?_)
      simp only [evalRunning, he, mt hquiet.mp hq, hn', hstop.mpr hel]
      cases ht : s.eng.stopHold with
      | none =>
        have hb : b.eng.stopHold = none := ht
        simp only [hb]
        rfl
      | some e =>
        have hb : b.eng.stopHold = some e := ht
        simp [hb]
        rw [← hb]
    · have hn' : (prestop b && !forcedCondition b x) ≠ true := by
        simpa [hnear, hforced, ← Bool.not_eq_true] using hn
      refine hrun.trans (congrArg _ ?_)
      simp only [evalRunning, he, mt hquiet.mp hq, hn', mt hstop.mp hel]
      rfl
  · have hrun : _ = Host.Outcome.next (evalCooldown x b) := exec_result_cooldown h hs
    refine ⟨fun he => ?_, fun he hf hq => ?_, fun he hf hq => ?_, fun he hf hq => ?_, fun he hf hq hw hb hn => ?_,
      fun he hf hq hn => ?_⟩
    · exact hrun.trans (by simp only [evalCooldown, he]; rfl)
    · exact hrun.trans (by simp [evalCooldown, he, mt hquiet.mp hq, hforced.mpr hf]; rfl)
    · exact hrun.trans (by simp [evalCooldown, he, hquiet.mpr hq, hforced.mpr hf, ← hbreach resumed rfl]; rfl)
    · exact hrun.trans (by simp [evalCooldown, he, hquiet.mpr hq, mt hforced.mp hf])
    · exact hrun.trans (by
        simp [evalCooldown, he, mt hquiet.mp hq, mt hforced.mp hf, hwant.mpr hw, mt hblock.mp hb, mt hnear.mp hn]; rfl)
    · have hn' : (startWant b x && !quietBlock b && !prestop b) ≠ true := by
        simpa [hwant, hblock, hnear, ← Bool.not_eq_true, and_assoc] using hn
      exact hrun.trans (by simp only [evalCooldown, he, mt hquiet.mp hq, mt hforced.mp hf, hn']; rfl)

/-! ## Timers and FAULT_CLEAR (R89 to R91, R101) -/

/-- A timer that runs and is reached expires in the state that started it, after a prune (R101). -/
theorem stateTimerExpiry_due {s : State} {st : EngState} {e : PartTime} (act : State → State) (hs : s.eng.state = st)
    (ht : s.eng.stateTimer = some e) (he : elapsed s.mdc.partTime e < 2147483648) :
    stateTimerExpiry st act s = act (prune s) := by
  refine if_pos ?_
  simp [hs, ht, expired, reached, State.now, he]

/-- Settles O36: each expiry, with the failure's two cases and the block of a retry. -/
theorem engineTimersExpire : Obligations.EngineTimersExpire := by
  intro s e he b qd within failed block at_
  have hblock : quietBlock b = true ↔ block := by
    rw [quietBlock_iff, quietWithin_eq]
    exact Iff.rfl
  refine ⟨fun hs ht => ?_, fun hs ht => ?_, fun hs ht => ?_, fun hs ht => ?_, fun hs ht => ?_⟩
  · refine congrArg _ ((stateTimerExpiry_due _ hs ht he).trans ?_)
    by_cases h3 : 3 ≤ s.eng.attempts + 1
    · refine (afterFailure_of_three 0 h3).trans ?_
      rw [if_pos h3]
      simp [State.raising, failed, b, State.now]
    · rw [if_neg h3]
      exact afterFailure_of_fewer 0 h3
  · refine next_congr ((stateTimerExpiry_due execPauseTimerExpiry.act hs ht he).trans (if_congr ?_ rfl rfl))
    have hforced : b.eng.forced = s.eng.forced := rfl
    rw [← hblock, ← hforced]
    simp [b]
  · exact congrArg _ (stateTimerExpiry_due _ hs ht he)
  · refine congrArg _ (if_pos ?_)
    simp [hs, ht, expired, reached, State.now, he]
  · exact congrArg _ (stateTimerExpiry_due _ hs ht he)

/-- Settles O37: the served request, by its target and by the engine state. -/
theorem faultClearServed : Obligations.FaultClearServed := by
  intro s b rest h
  have hserve := next_congr (takeRequest_serves h 0x23 noWait execFaultClear.serve rfl rfl rfl)
  refine ⟨fun hb => hserve.trans (next_congr (if_neg ?_)), fun hb hs => hserve.trans (next_congr ?_),
    fun hb hs => hserve.trans (next_congr ?_)⟩
  · exact fun hn => hb (BitVec.eq_of_toNat_eq hn)
  · subst hb
    have hst : (prune (s.setLnk { s.lnk with intake := rest })).eng.state = s.eng.state := rfl
    refine (if_pos rfl).trans ?_
    dsimp only
    cases he : s.eng.state with
    | lockout => exact absurd he hs
    | stopped => rw [hst, he]; rfl
    | cranking => rw [hst, he]; rfl
    | pause => rw [hst, he]; rfl
    | warmup => rw [hst, he]; rfl
    | running => rw [hst, he]; rfl
    | cooldown => rw [hst, he]; rfl
  · subst hb
    have hst : (prune (s.setLnk { s.lnk with intake := rest })).eng.state = s.eng.state := rfl
    refine (if_pos rfl).trans ?_
    dsimp only
    rw [hst, hs]
    rfl

end Sys2Proof.Machine
end

section
/-!
PROOFS. The map cache: its entries and their order (R61, R62), the victim of a fill, what each operation does to the entries; the
outcomes of a lookup (R60 to R65, R71, R74), MAP_FLUSH (R71), and what every step keeps (R75).
-/
namespace Sys2Proof.Machine

/-! ## Entries by number -/

theorem Env.entry_eq_getElem (e : Env) {n : Nat} (h : n < 8) : e.entry n = e.entries[n] := by
  simp [Env.entry, h]

theorem Env.entry_setEntry (e : Env) {n : Nat} (x : Entry) (h : n < 8) (m : Nat) :
    (e.setEntry n x).entry m = if m = n then x else e.entry m := by
  by_cases hm : m = n
  · subst hm
    simp [Env.entry, Env.setEntry, h]
  · simp [Env.entry, Env.setEntry, hm, Ne.symm hm]

/-- A search through the entries finds the number of one that passes. -/
theorem Env.findIdx?_some {e : Env} {p : Entry → Bool} {n : Nat} (h : e.entries.toList.findIdx? p = some n) :
    n < 8 ∧ p (e.entry n) = true := by
  rw [List.findIdx?_eq_some_iff_getElem] at h
  obtain ⟨hn, hp, -⟩ := h
  have hn : n < 8 := by simpa using hn
  refine ⟨hn, ?_⟩
  rw [e.entry_eq_getElem hn]
  simpa using hp

/-- A search that finds nothing has seen no entry that passes. -/
theorem Env.findIdx?_none {e : Env} {p : Entry → Bool} (h : e.entries.toList.findIdx? p = none) :
    ∀ n < 8, p (e.entry n) = false := by
  intro n hn
  rw [e.entry_eq_getElem hn]
  exact List.findIdx?_eq_none_iff.mp h _ (by simp)

theorem Env.findKey_some {e : Env} {k : Key} {n : Nat} (h : e.findKey k = some n) : n < 8 ∧ (e.entry n).key = some k := by
  obtain ⟨hn, hk⟩ := Env.findIdx?_some h
  exact ⟨hn, eq_of_beq hk⟩

theorem Env.findKey_none {e : Env} {k : Key} (h : e.findKey k = none) : ∀ n < 8, (e.entry n).key ≠ some k :=
  fun n hn hk => by simpa [hk] using Env.findIdx?_none h n hn

theorem Env.fillingEntry_some {e : Env} {n : Nat} (h : e.fillingEntry = some n) :
    n < 8 ∧ (e.entry n).state = .filling := by
  obtain ⟨hn, hk⟩ := Env.findIdx?_some h
  exact ⟨hn, eq_of_beq hk⟩

/-- The only FILLING entry is the one that is found. -/
theorem Env.fillingEntry_eq {e : Env} (h : e.Inv) {n : Nat} (hn : n < 8) (hf : (e.entry n).state = .filling) :
    e.fillingEntry = some n := by
  cases hx : e.fillingEntry with
  | none => simpa [hf] using Env.findIdx?_none hx n hn
  | some m =>
    obtain ⟨hm, hfm⟩ := Env.fillingEntry_some hx
    rw [h.oneFill n hn m hm hf hfm]

/-! ## The least recent entry (R61, R62) -/

/-- The last element of a list that passes has the greatest index of those that pass. -/
theorem idxOf_le_of_reverse_find? {l : List Nat} (hl : l.Nodup) {p : Nat → Bool} {n : Nat}
    (h : l.reverse.find? p = some n) : ∀ m ∈ l, p m = true → l.idxOf m ≤ l.idxOf n := by
  obtain ⟨-, as, bs, hsplit, hfail⟩ := List.find?_eq_some_iff_append.mp h
  have hl' : l = bs.reverse ++ n :: as.reverse := by
    rw [← List.reverse_reverse l, hsplit]
    simp
  intro m hm hp
  subst hl'
  have hn : n ∉ bs.reverse := fun hn => (List.nodup_append.mp hl).2.2 n hn n (by simp) rfl
  rw [List.idxOf_append_of_notMem hn, List.idxOf_cons_self, Nat.add_zero]
  have hm' : m ∈ bs.reverse ∨ m = n := by
    rcases List.mem_append.mp hm with hb | hb
    · exact .inl hb
    · rcases List.mem_cons.mp hb with rfl | ha
      · exact .inr rfl
      · exact absurd hp (by simpa using hfail m (List.mem_reverse.mp ha))
  rcases hm' with hb | rfl
  · rw [List.idxOf_append_of_mem hb]
    exact (List.idxOf_lt_length_of_mem hb).le
  · rw [List.idxOf_append_of_notMem hn, List.idxOf_cons_self, Nat.add_zero]

/-- R62: the victim is the least recent EMPTY entry, otherwise the least recent entry. -/
theorem Env.victim_spec {e : Env} (h : e.order.Perm (List.range 8)) :
    e.victim < 8 ∧ ((e.entry e.victim).state = .empty ∨ ∀ n < 8, (e.entry n).state ≠ .empty)
      ∧ ∀ n < 8, ((e.entry n).state = .empty ∨ (e.entry e.victim).state ≠ .empty) → e.rank n ≤ e.rank e.victim := by
  have hmem (n : Nat) : n ∈ e.order ↔ n < 8 := by rw [h.mem_iff, List.mem_range]
  have hnodup : e.order.Nodup := h.nodup_iff.mpr List.nodup_range
  unfold Env.victim
  dsimp only
  cases hf : e.order.reverse.find? fun n => (e.entry n).state == .empty with
  | some v =>
    have hv : (e.entry v).state = .empty := by simpa using List.find?_some hf
    refine ⟨(hmem v).mp (List.mem_reverse.mp (List.mem_of_find?_eq_some hf)), .inl hv, fun n hn hcase => ?_⟩
    exact idxOf_le_of_reverse_find? hnodup hf n ((hmem n).mpr hn)
      (beq_iff_eq.mpr (hcase.resolve_right (not_not_intro hv)))
  | none =>
    have hfull : ∀ n < 8, (e.entry n).state ≠ .empty := fun n hn => by
      simpa using List.find?_eq_none.mp hf n (List.mem_reverse.mpr ((hmem n).mpr hn))
    have hne : e.order.reverse ≠ [] := by
      intro hnil
      have h0 := (hmem 0).mpr (by decide)
      rw [List.reverse_eq_nil_iff.mp hnil] at h0
      cases h0
    have hlast : e.order.reverse.find? (fun _ => true) = some (e.order.reverse.headD 0) := by
      cases hr : e.order.reverse with
      | nil => exact absurd hr hne
      | cons v rest => rfl
    refine ⟨(hmem _).mp (List.mem_reverse.mp (List.mem_of_find?_eq_some hlast)), .inr hfull, fun n hn _ => ?_⟩
    exact idxOf_le_of_reverse_find? hnodup hlast n ((hmem n).mpr hn) rfl

theorem Env.order_cons_erase_perm {e : Env} (h : e.order.Perm (List.range 8)) {n : Nat} (hn : n < 8) :
    (n :: e.order.erase n).Perm (List.range 8) :=
  (List.perm_cons_erase (h.mem_iff.mpr (List.mem_range.mpr hn))).symm.trans h

/-! ## What an entry and the set of entries keep (R55, R61, R66, R68, R75) -/

/-- What one entry keeps by itself. -/
structure Entry.Wf (x : Entry) : Prop where
  keyed : x.key = none ↔ x.state = .empty
  cells : x.state = .valid → x.cells.length = 4
  attempts : ((x.state = .filling ∨ x.state = .valid) → x.attempts < 3) ∧ (x.state = .defective → x.attempts = 3)
  keyRange : ∀ k ∈ x.key, k.i ≤ 14 ∧ k.j ≤ 9

/-- What the entries keep whatever the port does: their order, different keys, and what each keeps by itself. -/
structure Env.Tiles (e : Env) : Prop where
  ranks : e.order.Perm (List.range 8)
  keys : ∀ a < 8, ∀ b < 8, (e.entry a).key ≠ none → (e.entry a).key = (e.entry b).key → a = b
  wf : ∀ a < 8, (e.entry a).Wf

theorem Env.Inv.tiles {e : Env} (h : e.Inv) : e.Tiles :=
  ⟨h.ranks, h.keys, fun a ha => ⟨h.keyed a ha, h.cells a ha, h.attempts a ha, h.keyRange a ha⟩⟩

/-- No entry is FILLING. -/
def Env.NoFill (e : Env) : Prop := ∀ a < 8, (e.entry a).state ≠ .filling

/-- Without a fill the port is not in FILL, and nothing of a fill stands. -/
theorem Env.Inv.of_noFill {e : Env} (h : e.Tiles) (hn : e.NoFill) (hport : e.port ≠ .fill) (hp : e.pendingKey = none)
    (ha : e.afterRead = false) : e.Inv where
  ranks := h.ranks
  keys := h.keys
  keyed a hlt := (h.wf a hlt).keyed
  oneFill a hlt _ _ hf := absurd hf (hn a hlt)
  port := ⟨fun hf => absurd hf hport, fun ⟨a, hlt, hf⟩ => absurd hf (hn a hlt)⟩
  cells a hlt := (h.wf a hlt).cells
  attempts a hlt := (h.wf a hlt).attempts
  pending hne := absurd hp hne
  gap := ⟨fun hg => by simp [ha] at hg, fun a hlt hf => absurd hf (hn a hlt)⟩
  keyRange a hlt := (h.wf a hlt).keyRange
  pendingRange := by simp [hp]

/-- With entry `n` the only one FILLING, the port is in FILL. -/
theorem Env.Inv.of_fill {e : Env} (h : e.Tiles) {n : Nat} (hlt : n < 8) (hfill : (e.entry n).state = .filling)
    (honly : ∀ a < 8, (e.entry a).state = .filling → a = n) (hport : e.port = .fill)
    (hgap : 0 < (e.entry n).attempts → e.afterRead = true) (hp : ∀ k ∈ e.pendingKey, k.i ≤ 14 ∧ k.j ≤ 9) : e.Inv where
  ranks := h.ranks
  keys := h.keys
  keyed a hlt := (h.wf a hlt).keyed
  oneFill a ha b hb hfa hfb := (honly a ha hfa).trans (honly b hb hfb).symm
  port := ⟨fun _ => ⟨n, hlt, hfill⟩, fun _ => hport⟩
  cells a hlt := (h.wf a hlt).cells
  attempts a hlt := (h.wf a hlt).attempts
  pending _ := hport
  gap := ⟨fun _ => hport, fun a ha hfa => by rw [honly a ha hfa]; exact hgap⟩
  keyRange a hlt := (h.wf a hlt).keyRange
  pendingRange := hp

theorem Env.Inv.noFill {e : Env} (h : e.Inv) (hport : e.port ≠ .fill) : e.NoFill :=
  fun a ha hf => hport (h.port.mpr ⟨a, ha, hf⟩)

/-- The entries with one replaced by another that no other entry's key meets, in a new order. -/
theorem Env.Tiles.replace {e : Env} (h : e.Tiles) {n : Nat} (hn : n < 8) {x : Entry} (hx : x.Wf)
    (hkey : ∀ k, x.key = some k → ∀ a < 8, a ≠ n → (e.entry a).key ≠ some k) {f : Env}
    (hentries : f.entries = (e.setEntry n x).entries) (horder : f.order.Perm (List.range 8)) : f.Tiles := by
  have hf (a : Nat) : f.entry a = if a = n then x else e.entry a := by
    rw [← e.entry_setEntry x hn a]
    simp [Env.entry, hentries]
  refine ⟨horder, fun a ha b hb hne heq => ?_, fun a ha => ?_⟩
  · rw [hf a] at hne
    rw [hf a, hf b] at heq
    by_cases han : a = n
    · by_cases hbn : b = n
      · exact han.trans hbn.symm
      · rw [if_pos han] at hne heq
        rw [if_neg hbn] at heq
        obtain ⟨k, hk⟩ := Option.ne_none_iff_exists'.mp hne
        exact absurd (heq.symm.trans hk) (hkey k hk b hb hbn)
    · rw [if_neg han] at hne heq
      by_cases hbn : b = n
      · rw [if_pos hbn] at heq
        obtain ⟨k, hk⟩ := Option.ne_none_iff_exists'.mp hne
        exact absurd hk (hkey k (heq.symm.trans hk) a ha han)
      · rw [if_neg hbn] at heq
        exact h.keys a ha b hb hne heq
  · rw [hf a]
    split
    · exact hx
    · exact h.wf a ha

/-! ## Fills (R64 to R69) -/

/-- The entry of a fill that begins. -/
def Entry.fillOf (k : Key) : Entry := { state := .filling, key := some k, cells := [], attempts := 0, discard := false }

theorem Entry.fillOf_wf {k : Key} (h : k.i ≤ 14 ∧ k.j ≤ 9) : (Entry.fillOf k).Wf :=
  ⟨by simp [Entry.fillOf], by simp [Entry.fillOf], by simp [Entry.fillOf], by simpa [Entry.fillOf] using h⟩

theorem Env.startFill_eq (afterRead : Bool) (k : Key) (e : Env) :
    e.startFill afterRead k =
      { e with
        port := .fill, afterRead, entries := e.entries.setIfInBounds e.victim (Entry.fillOf k)
        order := e.victim :: e.order.erase e.victim } := rfl

/-- A fill that starts with none running, of a key that no entry has (R64, R75). -/
theorem Env.startFill_inv {e : Env} (h : e.Tiles) (hn : e.NoFill) (afterRead : Bool) {k : Key}
    (hk : k.i ≤ 14 ∧ k.j ≤ 9) (hnew : ∀ a < 8, (e.entry a).key ≠ some k) (hp : e.pendingKey = none) :
    (e.startFill afterRead k).Inv := by
  have hv := (Env.victim_spec h.ranks).1
  have hentry (a : Nat) : (e.startFill afterRead k).entry a = if a = e.victim then Entry.fillOf k else e.entry a :=
    e.entry_setEntry (Entry.fillOf k) hv a
  refine .of_fill (n := e.victim) ?_ hv ?_ ?_ rfl ?_ ?_
  · refine h.replace hv (Entry.fillOf_wf hk) ?_ rfl (Env.order_cons_erase_perm h.ranks hv)
    intro k' hk' a ha _
    obtain rfl : k = k' := by simpa [Entry.fillOf] using hk'
    exact hnew a ha
  · rw [hentry, if_pos rfl]
    rfl
  · intro a ha hf
    by_contra hne
    rw [hentry, if_neg hne] at hf
    exact hn a ha hf
  · rw [hentry, if_pos rfl]
    simp [Entry.fillOf]
  · simp [Env.startFill_eq, hp]

/-- The end of a fill, once its entry is no longer FILLING (R69). -/
theorem Env.endFill_inv {e : Env} (h : e.Tiles) (hn : e.NoFill) (hp : ∀ k ∈ e.pendingKey, k.i ≤ 14 ∧ k.j ≤ 9) :
    e.endFill.Inv := by
  unfold Env.endFill
  dsimp only
  split
  next hnone => exact .of_noFill ⟨h.ranks, h.keys, h.wf⟩ hn (by simp) hnone rfl
  next k hk =>
    split
    · exact .of_noFill ⟨h.ranks, h.keys, h.wf⟩ hn (by simp) rfl rfl
    next hnew =>
      exact Env.startFill_inv (e := { e with port := .idle, afterRead := false, pendingKey := none })
        ⟨h.ranks, h.keys, h.wf⟩ hn true (hp k hk) (Env.findKey_none hnew) rfl

/-- The end of the fill of entry `n`, which becomes `x`, in a new order (R66, R68). -/
theorem Env.Inv.fillEnds {e : Env} (h : e.Inv) {n : Nat} (hn : n < 8) (hfill : (e.entry n).state = .filling) {x : Entry}
    (hx : x.Wf) (hnot : x.state ≠ .filling) (hkey : x.key = none ∨ x.key = (e.entry n).key) {f : Env}
    (hentries : f.entries = (e.setEntry n x).entries) (horder : f.order.Perm (List.range 8))
    (hp : f.pendingKey = e.pendingKey) : f.endFill.Inv := by
  refine Env.endFill_inv (h.tiles.replace hn hx (fun k hk a ha hne hak => ?_) hentries horder) (fun a ha hf => ?_)
    (by rw [hp]; exact h.pendingRange)
  · have hnk : (e.entry n).key = some k := by
      rcases hkey with h0 | h0
      · rw [h0] at hk
        cases hk
      · exact h0.symm.trans hk
    exact hne (h.keys a ha n hn (by simp [hak]) (hak.trans hnk.symm))
  · have hfa : f.entry a = if a = n then x else e.entry a := by
      rw [← e.entry_setEntry x hn a]
      simp [Env.entry, hentries]
    by_cases han : a = n
    · rw [hfa, if_pos han] at hf
      exact hnot hf
    · rw [hfa, if_neg han] at hf
      exact han (h.oneFill a ha n hn hf hfill)

/-- Dropping the FILLING entry and ending its fill (R66, R68). -/
theorem Env.Inv.dropEntry_endFill {e : Env} (h : e.Inv) {n : Nat} (hn : n < 8) (hfill : (e.entry n).state = .filling)
    (attempts : Nat) : (e.dropEntry n attempts).endFill.Inv := by
  refine h.fillEnds hn hfill (x := { state := .empty, key := none, cells := [], attempts, discard := false })
    ⟨by simp, by simp, by simp, by simp⟩ (by simp) (.inl rfl) rfl ?_ rfl
  exact (List.perm_append_singleton n _).trans (Env.order_cons_erase_perm h.ranks hn)

/-- A cache that keeps its invariant does so through the two fill events. -/
theorem fillSuccess_envInv (m : MapData) {s : State} (h : s.env.Inv) : (fillSuccess m s).env.Inv := by
  unfold fillSuccess
  split
  next n hport hentry =>
    obtain ⟨hn, hfill⟩ := Env.fillingEntry_some hentry
    dsimp only
    split
    · exact h
    next k hk =>
      split
      · exact h
      · split
        · exact h.dropEntry_endFill hn hfill _
        · have hwf := h.tiles.wf n hn
          exact h.fillEnds hn hfill (x := { s.env.entry n with state := .valid, cells := tileValues m k })
            ⟨by simp [hk], by simp [tileValues, tileAddresses], ⟨fun _ => hwf.attempts.1 (.inl hfill), by simp⟩,
              hwf.keyRange⟩
            (by simp) (.inr rfl) rfl h.ranks rfl
  · exact h

theorem checkFailure_envInv (m : MapData) {s : State} (h : s.env.Inv) : (checkFailure m s).env.Inv := by
  unfold checkFailure
  split
  next n hport hentry =>
    obtain ⟨hn, hfill⟩ := Env.fillingEntry_some hentry
    have hwf := h.tiles.wf n hn
    have hfew := hwf.attempts.1 (.inl hfill)
    dsimp only
    split
    · exact h
    next k hk =>
      split
      · exact h
      · split
        · exact h.dropEntry_endFill hn hfill _
        · split
          next hretry =>
            have hentry (a : Nat) : (s.env.setEntry n { s.env.entry n with attempts := (s.env.entry n).attempts + 1 }).entry a
                = if a = n then { s.env.entry n with attempts := (s.env.entry n).attempts + 1 } else s.env.entry a :=
              s.env.entry_setEntry _ hn a
            refine .of_fill (n := n) ?_ hn ?_ ?_ hport (fun _ => rfl) h.pendingRange
            · refine h.tiles.replace hn (x := { s.env.entry n with attempts := (s.env.entry n).attempts + 1 })
                ⟨hwf.keyed, hwf.cells, ⟨fun _ => hretry, by simp [hfill]⟩, hwf.keyRange⟩
                (fun k' hk' a ha hne hak => ?_) rfl h.ranks
              exact hne (h.keys a ha n hn (by simp [hak]) (hak.trans hk'.symm))
            · exact (congrArg Entry.state (hentry n)).trans (by simp [hfill])
            · intro a ha hf
              by_contra hne
              have hfa := (congrArg Entry.state (hentry a)).symm.trans hf
              rw [if_neg hne] at hfa
              exact hne (h.oneFill a ha n hn hfa hfill)
          next hthird =>
            exact h.fillEnds hn hfill
              (x := { s.env.entry n with state := .defective, attempts := (s.env.entry n).attempts + 1 })
              ⟨by simp [hk], by simp, ⟨by simp, fun _ => by simp; omega⟩, hwf.keyRange⟩
              (by simp) (.inr rfl) rfl h.ranks rfl
  · exact h

/-! ## Lookups (R60 to R65, R71, R74) -/

/-- The key of a lookup is one of the 150 (R55). -/
theorem axisSplit_spec (x step last : Nat) (hs : 0 < step) (hx : x ≤ step * (last + 1)) :
    (axisSplit x step last).1 ≤ last ∧ (axisSplit x step last).2 ≤ step
      ∧ ((axisSplit x step last).2 = step → (axisSplit x step last).1 = last)
      ∧ step * (axisSplit x step last).1 + (axisSplit x step last).2 = x := by
  unfold axisSplit
  have hdiv := Nat.div_add_mod x step
  have hmod := Nat.mod_lt x hs
  split
  next hle => exact ⟨hle, hmod.le, fun h => absurd h hmod.ne, hdiv⟩
  next hgt =>
    refine ⟨le_rfl, le_rfl, fun _ => rfl, ?_⟩
    have hbig : step * (last + 1) ≤ x := (Nat.mul_le_mul_left step (not_le.mp hgt)).trans (Nat.mul_div_le x step)
    have hx' := le_antisymm hx hbig
    rw [hx']
    ring

theorem tempAxis_le (temp : Int) : tempAxis temp ≤ 10 * (14 + 1) := by
  unfold tempAxis clampInt
  omega

theorem lookupKey_range (temp : Int) {soc : Nat} : (lookupKey temp soc).i ≤ 14 ∧ (lookupKey temp soc).j ≤ 9 := by
  refine ⟨(axisSplit_spec (tempAxis temp) 10 14 (by decide) (tempAxis_le temp)).1, ?_⟩
  unfold lookupKey axisSplit
  dsimp only
  split
  · assumption
  · exact le_rfl

/-- The entry that has the key of a lookup is found unless its fill is marked for discard (R60, R71). -/
theorem Env.findTile_eq {e : Env} (h : e.Inv) {k : Key} {n : Nat} (hn : n < 8) (hk : (e.entry n).key = some k)
    (hd : ¬ ((e.entry n).state = .filling ∧ (e.entry n).discard = true)) : e.findTile k = some n := by
  cases hf : e.findTile k with
  | none => exact absurd ⟨hk, hd⟩ (Env.findTile_none hf n hn)
  | some m =>
    obtain ⟨hm, hkm, -⟩ := Env.findTile_some hf
    rw [h.keys n hn m hm (by simp [hk]) (hk.trans hkm.symm)]

/-- No entry is found where none has the key, or the one that has it is a discarded fill. -/
theorem Env.findTile_eq_none {e : Env} {k : Key}
    (h : ∀ n < 8, (e.entry n).key = some k → (e.entry n).state = .filling ∧ (e.entry n).discard = true) :
    e.findTile k = none := by
  cases hf : e.findTile k with
  | none => rfl
  | some m =>
    obtain ⟨hm, hkm, hnd⟩ := Env.findTile_some hf
    exact absurd (h m hm hkm) hnd

section
variable {c : Cal} {temp : Int} {soc : Nat} {e : Env}

/-- A lookup that finds its entry, by the state of the entry (R60). -/
theorem envLookup_found {n : Nat} (hf : e.findTile (lookupKey temp soc) = some n) :
    envLookup c false temp soc e =
      match (e.entry n).state with
      | .valid =>
        (tileEnvelope (lookupFractions temp soc).1 (lookupFractions temp soc).2 (e.entry n).cells, .fresh,
          { e.makeRecent n with
            last := some (tileEnvelope (lookupFractions temp soc).1 (lookupFractions temp soc).2 (e.entry n).cells) })
      | .defective => (fallbackValues c, .fallback, { e.makeRecent n with last := some (fallbackValues c) })
      | .filling | .empty => ((heldValues c e).1, (heldValues c e).2, e.makeRecent n) := by
  simp only [envLookup, hf]
  rfl

/-- A lookup that misses, by the use of the port (R64, R65). -/
theorem envLookup_missed (hf : e.findTile (lookupKey temp soc) = none) :
    envLookup c false temp soc e =
      ((heldValues c e).1, (heldValues c e).2,
        match e.port with
        | .idle => e.startFill false (lookupKey temp soc)
        | .fill => { e with pendingKey := some (lookupKey temp soc) }
        | .imageRead => e) := by
  simp only [envLookup, hf]
  cases e.port <;> rfl

end

/-- Making an entry most recent keeps the invariant (R61), whatever envelope is then the last. -/
theorem Env.Inv.makeRecent {e : Env} (h : e.Inv) {n : Nat} (hn : n < 8) (last : Option MapValues) :
    { e.makeRecent n with last }.Inv :=
  ⟨Env.order_cons_erase_perm h.ranks hn, h.keys, h.keyed, h.oneFill, h.port, h.cells, h.attempts, h.pending, h.gap,
    h.keyRange, h.pendingRange⟩

/-- A lookup keeps the invariant (R60 to R65, R75). -/
theorem envLookup_inv (c : Cal) (noMap : Bool) (temp : Int) (soc : Nat) {e : Env} (h : e.Inv) :
    (envLookup c noMap temp soc e).2.2.Inv := by
  cases noMap with
  | true => exact h
  | false =>
    cases hf : e.findTile (lookupKey temp soc) with
    | some n =>
      have hn := (Env.findTile_some hf).1
      rw [envLookup_found hf]
      cases (e.entry n).state with
      | valid => exact h.makeRecent hn _
      | defective => exact h.makeRecent hn _
      | filling => exact h.makeRecent hn e.last
      | empty => exact h.makeRecent hn e.last
    | none =>
      rw [envLookup_missed hf]
      dsimp only
      split
      next hport =>
        have hnofill := h.noFill (by simp [hport])
        refine Env.startFill_inv h.tiles hnofill false (lookupKey_range temp) (fun a ha hk => ?_) ?_
        · exact Env.findTile_none hf a ha ⟨hk, fun hd => hnofill a ha hd.1⟩
        · by_contra hp
          simpa [hport] using h.pending hp
      next hport =>
        exact ⟨h.ranks, h.keys, h.keyed, h.oneFill, h.port, h.cells, h.attempts, fun _ => hport, h.gap, h.keyRange,
          by simpa using lookupKey_range temp⟩
      · exact h

/-! ## MAP_FLUSH (R71) -/

/-- What a MAP_FLUSH makes of an entry. -/
def Entry.flushed (x : Entry) : Entry :=
  if x.flushable then { x with state := .empty, key := none, cells := [], discard := false }
  else if x.state == .filling then { x with discard := true }
  else x

theorem Entry.flushable_iff (x : Entry) : x.flushable = true ↔ x.state = .valid ∨ x.state = .defective := by
  simp [Entry.flushable]

theorem Env.entry_flush (e : Env) {n : Nat} (hn : n < 8) : e.flush.entry n = (e.entry n).flushed := by
  rw [Env.entry_eq_getElem _ hn, Env.entry_eq_getElem _ hn]
  simp only [Env.flush, Vector.getElem_map]
  rfl

/-- A flushed entry is FILLING just where it was, and keeps its key just there. -/
theorem Entry.flushed_filling (x : Entry) : x.flushed.state = .filling ↔ x.state = .filling := by
  unfold Entry.flushed Entry.flushable
  cases hs : x.state <;> simp [hs]

theorem Entry.flushed_attempts (x : Entry) : x.flushed.attempts = x.attempts := by
  unfold Entry.flushed
  split
  · rfl
  split <;> rfl

theorem Entry.flushed_key (x : Entry) : x.flushed.key = none ∨ x.flushed.key = x.key := by
  unfold Entry.flushed
  split
  · exact .inl rfl
  split <;> exact .inr rfl

theorem Entry.Wf.flushed {x : Entry} (h : x.Wf) : x.flushed.Wf := by
  unfold Entry.flushed
  split
  · exact ⟨by simp, by simp, by simp, by simp⟩
  split
  · exact ⟨h.keyed, h.cells, h.attempts, h.keyRange⟩
  · exact h

theorem Env.flush_inv {e : Env} (h : e.Inv) : e.flush.Inv := by
  have hkey {a : Nat} (ha : a < 8) (hne : (e.flush.entry a).key ≠ none) :
      (e.flush.entry a).key = (e.entry a).key := by
    rw [e.entry_flush ha] at hne ⊢
    exact ((e.entry a).flushed_key).resolve_left hne
  have htiles : e.flush.Tiles := by
    refine ⟨?_, fun a ha b hb hne heq => ?_, fun a ha => ?_⟩
    · have hperm := List.filter_append_perm (fun n => (e.entry n).flushable) e.order
      exact (List.perm_append_comm.trans hperm).trans h.ranks
    · have hneb : (e.flush.entry b).key ≠ none := heq ▸ hne
      have hab := (hkey ha hne).symm.trans (heq.trans (hkey hb hneb))
      exact h.keys a ha b hb (hkey ha hne ▸ hne) hab
    · rw [e.entry_flush ha]
      exact (h.tiles.wf a ha).flushed
  have hfill {a : Nat} (ha : a < 8) : (e.flush.entry a).state = .filling ↔ (e.entry a).state = .filling := by
    rw [e.entry_flush ha, Entry.flushed_filling]
  by_cases hport : e.port = .fill
  · obtain ⟨n, hn, hf⟩ := h.port.mp hport
    refine .of_fill htiles hn ((hfill hn).mpr hf) (fun a ha hfa => ?_) hport (fun hpos => ?_) (by simp [Env.flush])
    · exact h.oneFill a ha n hn ((hfill ha).mp hfa) hf
    · rw [e.entry_flush hn, Entry.flushed_attempts] at hpos
      exact h.gap.2 n hn hf hpos
  · refine .of_noFill htiles (fun a ha hf => h.noFill hport a ha ((hfill ha).mp hf)) hport rfl ?_
    exact Bool.eq_false_iff.mpr fun hg => hport (h.gap.1 hg)

/-! ## Every command and every step (R75) -/

theorem Env.entry_reset {n : Nat} (hn : n < 8) : Env.reset.entry n = Entry.empty := by
  rw [Env.entry_eq_getElem _ hn]
  simp [Env.reset]

/-- The reset values, with whatever use of the port that is not a fill (R72). -/
theorem Env.reset_inv {port : PortState} (hport : port ≠ .fill) : { Env.reset with port }.Inv := by
  have hentry (a : Nat) (ha : a < 8) : ({ Env.reset with port } : Env).entry a = Entry.empty := Env.entry_reset ha
  refine .of_noFill ⟨.refl _, fun a ha b _ hne => ?_, fun a ha => ?_⟩ (fun a ha => ?_) hport rfl rfl
  · rw [hentry a ha] at hne
    exact absurd rfl hne
  · rw [hentry a ha]
    exact ⟨by simp [Entry.empty], by simp [Entry.empty], by simp [Entry.empty], by simp [Entry.empty]⟩
  · rw [hentry a ha]
    simp [Entry.empty]

/-- LOADING is entered, and what follows is still to be decided (R153). -/
def State.loading (s : State) : State := s.setMdc { s.mdc with op := .loading }

/-- With no map memory fitted the defaults are kept at once. -/
theorem enterLoading_noMap {s : State} (h : s.mdc.straps.mw = 3) : enterLoading s = keepDefaults 1 s.loading := if_pos h

/-- So are they where the strap skips the image. -/
theorem enterLoading_skip {s : State} (h : s.mdc.straps.mw ≠ 3) (hskip : s.mdc.straps.calskip = true) :
    enterLoading s = keepDefaults 0 s.loading := (if_neg h).trans (if_pos hskip)

/-- Otherwise the read of the image begins. -/
theorem enterLoading_read {s : State} (h : s.mdc.straps.mw ≠ 3) (hskip : s.mdc.straps.calskip ≠ true) :
    enterLoading s = s.loading.setEnv { s.env with port := .imageRead } := (if_neg h).trans (if_neg hskip)

theorem enterLoading_env (s : State) :
    (enterLoading s).env =
      if s.mdc.straps.mw = 3 ∨ s.mdc.straps.calskip = true then s.env else { s.env with port := .imageRead } := by
  by_cases hmw : s.mdc.straps.mw = 3
  · rw [enterLoading_noMap hmw, if_pos (.inl hmw)]
    simp [State.loading]
  by_cases hskip : s.mdc.straps.calskip = true
  · rw [enterLoading_skip hmw hskip, if_pos (.inr hskip)]
    simp [State.loading]
  · rw [enterLoading_read hmw hskip, if_neg (not_or.mpr ⟨hmw, hskip⟩)]
    rfl

theorem enterLoading_envInv {s : State} (h : s.env = Env.reset) : (enterLoading s).env.Inv := by
  rw [enterLoading_env, h]
  split
  · exact Env.reset_inv (port := .idle) (by simp)
  · exact Env.reset_inv (by simp)

theorem restartEffect_envInv (s : State) : (restartEffect s).env.Inv := by
  unfold restartEffect
  exact enterLoading_envInv rfl

/-- A dispatch leaves ENV as its lookup does. -/
theorem dispatch_env (x : DemandFields) (s : State) :
    (dispatch x s).env = (envLookup s.cal (s.mdc.straps.mw == 3) x.temp x.soc s.env).2.2 := by
  simp [dispatch]

/-- The port is free once the image has been read (R153). -/
theorem Env.Inv.imageRead_ends {e : Env} (h : e.Inv) (hport : e.port = .imageRead) : { e with port := .idle }.Inv := by
  have hne : e.port ≠ .fill := by simp [hport]
  refine .of_noFill ⟨h.ranks, h.keys, h.tiles.wf⟩ (h.noFill hne) (by simp) ?_ ?_
  · by_contra hp
    exact hne (h.pending hp)
  · exact Bool.eq_false_iff.mpr fun hg => hne (h.gap.1 hg)

/-- Forgetting the last envelope keeps the invariant. -/
theorem Env.Inv.with_last {e : Env} (h : e.Inv) (last : Option MapValues) : { e with last }.Inv :=
  ⟨h.ranks, h.keys, h.keyed, h.oneFill, h.port, h.cells, h.attempts, h.pending, h.gap, h.keyRange, h.pendingRange⟩

theorem imageReadEnd_envInv (m : MapData) {s t : State} (h : s.env.Inv) (he : exec (.imageReadEnd m) s = .next t) :
    t.env.Inv := by
  simp only [exec, execImageReadEnd, Host.Outcome.next.injEq] at he
  subst he
  split
  next hdue =>
    simp only [Bool.and_eq_true, beq_iff_eq] at hdue
    have hidle := h.imageRead_ends hdue.2
    split
    · simpa [foldl_raise, State.raising] using hidle
    · simpa using hidle
  · exact h

theorem takeRequest_envInv {s : State} (type : Byte) (ready : Frame → State → Bool) {serve : Frame → State → State}
    (hserve : ∀ f s, s.env.Inv → (serve f s).env.Inv) (h : s.env.Inv) : (takeRequest type ready serve s).env.Inv :=
  takeRequest_preserves (P := fun s => s.env.Inv) type ready (fun _ _ h => h) hserve h

theorem demandServe_envInv (f : Frame) {s : State} (h : s.env.Inv) : (execDemand.serve f s).env.Inv := by
  unfold execDemand.serve
  split
  · rw [dispatch_env]
    exact envLookup_inv _ _ _ _ h
  all_goals exact h

theorem startServe_envInv (f : Frame) {s : State} (h : s.env.Inv) : (execStart.serve f s).env.Inv := by
  unfold execStart.serve
  split
  · split
    · exact h
    · simpa using h.with_last none
  all_goals exact h

theorem mapFlushServe_envInv (f : Frame) {s : State} (h : s.env.Inv) : (execMapFlush.serve f s).env.Inv := by
  unfold execMapFlush.serve
  split
  · exact h
  · exact Env.flush_inv h

/-- Every command keeps the cache's invariant. -/
theorem exec_envInv (i : Instr) {s t : State} (h : s.env.Inv) (he : exec i s = .next t) : t.env.Inv := by
  by_cases hi : changesEnv i = false
  · rw [env_kept i hi s t he]
    exact h
  cases i
  case powerOn straps | resetn straps =>
    cases he
    exact enterLoading_envInv rfl
  case imageReadEnd image => exact imageReadEnd_envInv image h he
  case demand => cases he; exact takeRequest_envInv _ _ (fun f _ => demandServe_envInv f) h
  case fillSuccess cells => cases he; exact fillSuccess_envInv cells h
  case checkFailure cells => cases he; exact checkFailure_envInv cells h
  case start => cases he; exact takeRequest_envInv _ _ (fun f _ => startServe_envInv f) h
  case mapFlush => cases he; exact takeRequest_envInv _ _ (fun f _ => mapFlushServe_envInv f) h
  case transmitEnd =>
    simp only [exec, execTransmitEnd, Host.Outcome.next.injEq] at he
    subst he
    split
    · exact h
    · split
      · exact restartEffect_envInv s
      · exact h
  all_goals exact absurd rfl hi

/-- Settles O55: every command keeps the invariant, and a millisecond leaves ENV alone. -/
theorem cacheKept : Obligations.CacheKept := by
  intro s t h he
  unfold step at he
  split at he
  · cases he
    exact h
  · refine exec_envInv _ ?_ he
    exact h

/-! ## The outcomes of a lookup -/

/-- Settles O22: the entry found, by its state; a miss, by the use of the port. -/
theorem lookupOutcomes : Obligations.LookupOutcomes := by
  intro c temp soc e h k f fb held
  have hheld : heldValues c e = held := rfl
  refine ⟨rfl, fun n hn hk => ?_, fun hnone => ⟨fun hport => ?_, fun hport => ?_⟩⟩
  · intro recent
    refine ⟨fun hs => ?_, fun hs => ?_, fun hs hd => ?_, fun hs hd => ?_⟩
    · rw [envLookup_found (Env.findTile_eq h hn hk (by simp [hs])), hs]
      rfl
    · rw [envLookup_found (Env.findTile_eq h hn hk (by simp [hs])), hs]
      rfl
    · rw [envLookup_found (Env.findTile_eq h hn hk (by simp [hd])), hs]
      rfl
    · have hmiss : e.findTile k = none := Env.findTile_eq_none fun m hm hkm => by
        rw [h.keys m hm n hn (by simp [hkm]) (hkm.trans hk.symm)]
        exact ⟨hs, hd⟩
      rw [envLookup_missed hmiss, h.port.mpr ⟨n, hn, hs⟩]
      rfl
  · rw [envLookup_missed (Env.findTile_eq_none fun n hn hk => absurd hk (hnone n hn)), hport]
    rfl
  · obtain ⟨hlt, hempty, hleast⟩ := Env.victim_spec h.ranks
    refine ⟨e.victim, hlt, hempty, hleast, ?_⟩
    rw [envLookup_missed (Env.findTile_eq_none fun n hn hk => absurd hk (hnone n hn)), hport]
    rfl

/-- The entries that a MAP_FLUSH empties, counted by number. -/
theorem Env.flushCount_eq (e : Env) :
    e.flushCount = (List.range 8).countP fun n => decide ((e.entry n).state = .valid ∨ (e.entry n).state = .defective) := by
  have hlist : e.entries.toList = (List.range 8).map e.entry := by
    refine List.ext_getElem (by simp) fun n h1 h2 => ?_
    have hn : n < 8 := by simpa using h1
    simp [e.entry_eq_getElem hn]
  rw [Env.flushCount, hlist, List.countP_map]
  congr 1
  funext n
  rw [Function.comp_apply, Bool.eq_iff_iff, Entry.flushable_iff, decide_eq_true_iff]

/-- Settles O24: the served MAP_FLUSH, with and without a map memory. -/
theorem mapFlushServed : Obligations.MapFlushServed := by
  intro s rest h flushed
  have hserve := next_congr (takeRequest_serves h 0x50 noWait execMapFlush.serve rfl rfl rfl)
  refine ⟨fun hmw => hserve.trans (next_congr (if_pos hmw)), fun hmw => ⟨s.env.flush, ?_, rfl, rfl, rfl, rfl, ?_, ?_⟩⟩
  · refine hserve.trans (next_congr ((if_neg hmw).trans ?_))
    rw [← Env.flushCount_eq]
    rfl
  · have hdec (n : Nat) : (s.env.entry n).flushable = decide (flushed n) := by
      rw [Bool.eq_iff_iff, Entry.flushable_iff, decide_eq_true_iff]
    simp only [Env.flush, hdec, decide_not]
  · intro n hn
    rw [s.env.entry_flush hn, Entry.flushed, if_congr (Entry.flushable_iff _) rfl (if_congr beq_iff_eq rfl rfl)]

end Sys2Proof.Machine
end

section
/-!
PROOFS. The arithmetic of a lookup (R55, R56), the outcomes of a fill attempt and the end of a fill (R66 to R69), and the lines, the
transfers and the beats of the map port (R51 to R54, R63, R153).
-/
namespace Sys2Proof.Machine

/-! ## Lookup arithmetic (R55, R56) -/

theorem tempAxis_cast (temp : Int) : (tempAxis temp : Int) = max 0 (min (temp + 60) 150) := by
  unfold tempAxis clampInt
  omega

/-- The weights of the four cells sum to 10000. -/
theorem weights_sum {fi fj : Nat} (hi : fi ≤ 10) (hj : fj ≤ 1000) :
    (10 - fi) * (1000 - fj) + fi * (1000 - fj) + (10 - fi) * fj + fi * fj = 10000 := by
  obtain ⟨a, ha⟩ := Nat.exists_eq_add_of_le hi
  obtain ⟨b, hb⟩ := Nat.exists_eq_add_of_le hj
  rw [ha, hb, Nat.add_sub_cancel_left, Nat.add_sub_cancel_left]
  have h : (fi + a) * (fj + b) = 10000 := by rw [← ha, ← hb]
  linarith [h, Nat.add_mul fi a (fj + b), Nat.mul_add fi fj b, Nat.mul_add a fj b]

/-- The interpolation as a sum over its weights. -/
theorem interpolate_eq (fi fj c00 c01 c10 c11 : Nat) :
    interpolate fi fj c00 c01 c10 c11 =
      (c00 * ((10 - fi) * (1000 - fj)) + c10 * (fi * (1000 - fj)) + c01 * ((10 - fi) * fj) + c11 * (fi * fj)) / 10000 := by
  simp only [interpolate, Nat.mul_assoc]

/-- A value below all four cells is below their interpolation. -/
theorem le_interpolate {fi fj c00 c01 c10 c11 m : Nat} (hi : fi ≤ 10) (hj : fj ≤ 1000) (h00 : m ≤ c00) (h01 : m ≤ c01)
    (h10 : m ≤ c10) (h11 : m ≤ c11) : m ≤ interpolate fi fj c00 c01 c10 c11 := by
  rw [interpolate_eq, Nat.le_div_iff_mul_le (by decide), ← weights_sum hi hj, Nat.mul_add, Nat.mul_add, Nat.mul_add]
  gcongr

/-- A value above all four cells is above their interpolation. -/
theorem interpolate_le {fi fj c00 c01 c10 c11 m : Nat} (hi : fi ≤ 10) (hj : fj ≤ 1000) (h00 : c00 ≤ m) (h01 : c01 ≤ m)
    (h10 : c10 ≤ m) (h11 : c11 ≤ m) : interpolate fi fj c00 c01 c10 c11 ≤ m := by
  rw [interpolate_eq]
  refine Nat.div_le_of_le_mul ?_
  rw [Nat.mul_comm 10000 m, ← weights_sum hi hj, Nat.mul_add, Nat.mul_add, Nat.mul_add]
  gcongr

/-- Settles O21: the axes, the weighted sum, and its bounds. -/
theorem lookupArithmetic : Obligations.LookupArithmetic := by
  refine ⟨fun temp soc hsoc => ?_, fun fi fj c00 c01 c10 c11 _ _ => ⟨fun _ _ _ _ => rfl, rfl⟩, fun _ _ => rfl,
    fun fi fj c00 c01 c10 c11 hi hj => ⟨?_, ?_, ?_⟩⟩
  · obtain ⟨hi, hf, htop, hsum⟩ := axisSplit_spec (tempAxis temp) 10 14 (by decide) (tempAxis_le temp)
    refine ⟨⟨hi, hf, htop, ?_⟩, axisSplit_spec soc 1000 9 (by decide) (by omega)⟩
    rw [← tempAxis_cast, ← hsum]
    rfl
  · exact le_interpolate hi hj (by omega) (by omega) (by omega) (by omega)
  · exact interpolate_le hi hj (by omega) (by omega) (by omega) (by omega)
  · simp [interpolate, Nat.mul_assoc]

/-! ## Fill attempts (R54, R66, R68) -/

theorem firstBadCell_none {m : MapData} {k : Key} (h : ∀ a ∈ tileAddresses k, cellPasses m a = true) :
    firstBadCell m k = none := by
  rw [firstBadCell, List.findIdx?_eq_none_iff]
  simpa using h

theorem firstBadCell_some {m : MapData} {k : Key} {pos a : Nat} (ha : (tileAddresses k)[pos]? = some a)
    (hbad : cellPasses m a = false) (hbefore : ∀ q < pos, ∀ b ∈ (tileAddresses k)[q]?, cellPasses m b = true) :
    firstBadCell m k = some pos := by
  obtain ⟨hlt, hget⟩ := List.getElem?_eq_some_iff.mp ha
  rw [firstBadCell, List.findIdx?_eq_some_iff_getElem]
  refine ⟨hlt, by simp [hget, hbad], fun q hq => ?_⟩
  have hqlt := hq.trans hlt
  simpa using hbefore q hq _ (List.getElem?_eq_getElem hqlt)

section
variable {s : State} {n : Nat} {k : Key} (m : MapData) (hn : n < 8) (h : s.env.Inv) (hport : s.env.port = .fill)
  (hfill : (s.env.entry n).state = .filling) (hkey : (s.env.entry n).key = some k)
include hn h hport hfill hkey

/-- FILL_SUCCESS with all four cells good. -/
theorem fillSuccess_passed (hgood : firstBadCell m k = none) :
    fillSuccess m s =
      if (s.env.entry n).discard then s.setEnv (s.env.dropEntry n (s.env.entry n).attempts).endFill
      else s.setEnv (s.env.setEntry n { s.env.entry n with state := .valid, cells := tileValues m k }).endFill := by
  simp only [fillSuccess, hport, Env.fillingEntry_eq h hn hfill, hkey, hgood]

/-- CHECK_FAILURE with a bad cell. -/
theorem checkFailure_failed {pos : Nat} (hbad : firstBadCell m k = some pos) :
    checkFailure m s =
      if (s.env.entry n).discard then s.setEnv (s.env.dropEntry n ((s.env.entry n).attempts + 1)).endFill
      else if (s.env.entry n).attempts + 1 < 3 then
        s.setEnv
          { s.env.setEntry n { s.env.entry n with attempts := (s.env.entry n).attempts + 1 } with afterRead := true }
      else
        raise .env .mapFault pos (k.i * 256 + k.j)
          (s.setEnv
            (s.env.setEntry n
              { s.env.entry n with state := .defective, attempts := (s.env.entry n).attempts + 1 }).endFill) := by
  simp only [checkFailure, hport, Env.fillingEntry_eq h hn hfill, hkey, hbad]

end

/-- The word at an address, from the bytes the map memory returns. -/
theorem mapByte_eq (m : MapData) (a : Nat) :
    mapByte m a = ((m.find? fun c => c.1 == a).map Prod.snd).getD 0xFF := by
  unfold mapByte
  cases m.find? fun c => c.1 == a <;> rfl

/-! ## The end of a fill (R69) -/

theorem Env.endFill_idle {e : Env} (h : e.pendingKey = none) : e.endFill = { e with port := .idle, afterRead := false } := by
  simp only [Env.endFill, h]

theorem Env.endFill_known {e : Env} {k : Key} (h : e.pendingKey = some k) (hk : ∃ n < 8, (e.entry n).key = some k) :
    e.endFill = { e with port := .idle, afterRead := false, pendingKey := none } := by
  obtain ⟨n, hn, hkey⟩ := hk
  cases hf : ({ e with port := .idle, afterRead := false, pendingKey := none } : Env).findKey k with
  | none => exact absurd hkey (Env.findKey_none hf n hn)
  | some m => simp only [Env.endFill, h, hf]

theorem Env.endFill_fills {e : Env} {k : Key} (h : e.pendingKey = some k) (hk : ∀ n < 8, (e.entry n).key ≠ some k) :
    e.endFill = ({ e with port := .idle, afterRead := false, pendingKey := none } : Env).startFill true k := by
  cases hf : ({ e with port := .idle, afterRead := false, pendingKey := none } : Env).findKey k with
  | none => simp only [Env.endFill, h, hf]
  | some m =>
    obtain ⟨hm, hkey⟩ := Env.findKey_some hf
    exact absurd hkey (hk m hm)

/-! ## Bits of a byte (R52) -/

theorem bit_getLsbD (b : Byte) (k : Nat) : bit (b.getLsbD k) = b.toNat / 2 ^ k % 2 := by
  rw [← BitVec.testBit_toNat, Nat.testBit_eq_decide_div_mod_eq, bit]
  have := Nat.mod_lt (b.toNat / 2 ^ k) (by decide : 0 < 2)
  by_cases h : b.toNat / 2 ^ k % 2 = 1
  · simp [h]
  · simp [h]
    omega

/-- A number read one binary place further. -/
theorem two_mul_div_add (x m : Nat) : 2 * (x / 2 ^ (m + 1)) + x / 2 ^ m % 2 = x / 2 ^ m := by
  rw [Nat.pow_succ, ← Nat.div_div_eq_div_mul]
  omega

/-- The byte of its own bits. -/
theorem bitsByte_byteBits (b : Byte) : bitsByte (byteBits b) = b := by
  have hbits : byteBits b =
      [b.getLsbD 7, b.getLsbD 6, b.getLsbD 5, b.getLsbD 4, b.getLsbD 3, b.getLsbD 2, b.getLsbD 1, b.getLsbD 0] := rfl
  have htop : b.toNat / 2 ^ 7 % 2 = b.toNat / 2 ^ 7 := Nat.mod_eq_of_lt (by have := b.isLt; omega)
  apply BitVec.eq_of_toNat_eq
  simp only [hbits, bitsByte, List.foldl_cons, List.foldl_nil, bit_getLsbD, byte, BitVec.toNat_ofNat, htop, Nat.mul_zero,
    Nat.zero_add]
  rw [two_mul_div_add _ 6, two_mul_div_add _ 5, two_mul_div_add _ 4, two_mul_div_add _ 3, two_mul_div_add _ 2,
    two_mul_div_add _ 1, two_mul_div_add _ 0, Nat.pow_zero, Nat.div_one, Nat.mod_eq_of_lt b.isLt]

/-- The bits of a byte taken out of a number. -/
theorem byteBits_byte (a p : Nat) :
    byteBits (byte (a / 2 ^ p)) = (List.range 8).map fun k => a.testBit (p + (7 - k)) := by
  refine List.map_congr_left fun k _ => ?_
  rw [byte, BitVec.getLsbD_ofNat, Nat.testBit_div_two_pow]
  simp [Nat.add_comm]
  omega

/-! ## Transfers and beats (R52, R63, R153) -/

theorem MapTransfer.sentBits_eq (a n : Nat) :
    MapTransfer.sentBits ⟨a, n⟩ =
      [false, false, false, false, false, false, true, true]
        ++ (List.range 24).map fun k => (BitVec.ofNat 24 a).getLsbD (23 - k) := by
  have h0 := byteBits_byte a 0
  have h8 := byteBits_byte a 8
  have h16 := byteBits_byte a 16
  rw [Nat.pow_zero, Nat.div_one] at h0
  simp only [MapTransfer.sentBits, MapTransfer.command, List.flatMap_cons, List.flatMap_nil, List.append_nil]
  rw [h0, show (256 : Nat) = 2 ^ 8 from rfl, show (65536 : Nat) = 2 ^ 16 from rfl, h8, h16]
  simp [List.range_succ_eq_map, byteBits, BitVec.getLsbD_ofNat]
  decide

theorem MapTransfer.sentBits_length (t : MapTransfer) : t.sentBits.length = 32 := rfl

/-- Each transfer takes its beats. -/
theorem MapTransfer.portBeats_length (lines : Nat) (t : MapTransfer) : (t.portBeats lines).length = t.beats lines := by
  simp [MapTransfer.portBeats, MapTransfer.beats, MapTransfer.sentBits_length]

section
variable (lines : Nat) (t : MapTransfer)

/-- The beats of one transfer, each at its place: the bits sent, then the data, then no transfer. -/
theorem MapTransfer.portBeats_send {r : Nat} {b : Bool} (h : t.sentBits[r]? = some b) :
    (t.portBeats lines).getD r .rest = .send b := by
  obtain ⟨hlt, rfl⟩ := List.getElem?_eq_some_iff.mp h
  rw [MapTransfer.portBeats, List.getD_append _ _ _ _ (by simpa using hlt), List.getD_eq_getElem _ _ (by simpa using hlt)]
  simp

theorem MapTransfer.portBeats_receive {r : Nat} (h1 : 32 ≤ r) (h2 : r < t.beats lines) :
    (t.portBeats lines).getD r .rest = .receive := by
  have hlen : (t.sentBits.map PortBeat.send).length = 32 := by simp [MapTransfer.sentBits_length]
  rw [MapTransfer.portBeats, List.getD_append_right _ _ _ _ (by omega), hlen,
    List.getD_eq_getElem _ _ (by simp [MapTransfer.beats] at h2 ⊢; omega)]
  simp

theorem MapTransfer.portBeats_rest {r : Nat} (h : t.beats lines ≤ r) : (t.portBeats lines).getD r .rest = .rest :=
  List.getD_eq_default _ _ (by rw [MapTransfer.portBeats_length]; exact h)

end

/-- The beats of transfers one after another, as blocks of a transfer and two beats of rest. -/
theorem portBeats_append_rest (lines : Nat) (t : MapTransfer) (ts : List MapTransfer) :
    portBeats lines (t :: ts) ++ [.rest, .rest] =
      ((t :: ts).map fun t => t.portBeats lines ++ [PortBeat.rest, .rest]).flatten := by
  induction ts generalizing t with
  | nil => simp [portBeats]
  | cons u us ih =>
    have hcons : portBeats lines (t :: u :: us) = t.portBeats lines ++ [.rest, .rest] ++ portBeats lines (u :: us) := by
      simp [portBeats, List.intersperse_cons_cons]
    rw [hcons, List.append_assoc, ih u, List.map_cons (l := u :: us), List.flatten_cons]

theorem portBeats_length (lines : Nat) (ts : List MapTransfer) :
    (portBeats lines ts).length = transfersBeats lines ts := by
  cases ts with
  | nil => rfl
  | cons t us =>
    have hlen := congrArg List.length (portBeats_append_rest lines t us)
    have hsum : ∀ l : List MapTransfer,
        ((l.map fun t => t.portBeats lines ++ [PortBeat.rest, .rest]).flatten).length =
          (l.map (MapTransfer.beats lines)).sum + 2 * l.length := by
      intro l
      induction l with
      | nil => rfl
      | cons u us ih =>
        rw [List.map_cons, List.flatten_cons, List.length_append, ih, List.length_append, MapTransfer.portBeats_length]
        simp only [List.length_cons, List.length_nil, List.map_cons, List.sum_cons]
        omega
    rw [hsum, List.length_append] at hlen
    simp only [transfersBeats, List.length_cons, List.length_nil] at hlen ⊢
    omega

/-- Two more beats of rest change no beat: past the end there is rest in any case. -/
theorem getD_append_rest (l : List PortBeat) (i : Nat) : (l ++ [PortBeat.rest, .rest]).getD i .rest = l.getD i .rest := by
  by_cases h : i < l.length
  · rw [List.getD_append _ _ _ _ h]
  · rw [List.getD_append_right _ _ _ _ (not_lt.mp h), List.getD_eq_default _ _ (not_lt.mp h)]
    rcases i - l.length with _ | _ | _ <;> rfl

/-- Element `r` of block `q`, in blocks of one length. -/
theorem getD_flatten_blocks {α : Type} {d : α} {len : Nat} {ls : List (List α)} (hlen : ∀ l ∈ ls, l.length = len) {q r : Nat}
    {l : List α} (hq : ls[q]? = some l) (hr : r < len) : ls.flatten.getD (q * len + r) d = l.getD r d := by
  induction ls generalizing q with
  | nil => simp at hq
  | cons x xs ih =>
    have hx : x.length = len := hlen x (by simp)
    cases q with
    | zero =>
      obtain rfl : x = l := by simpa using hq
      rw [List.flatten_cons, Nat.zero_mul, Nat.zero_add, List.getD_append _ _ _ _ (hx ▸ hr)]
    | succ q =>
      rw [List.flatten_cons, List.getD_append_right _ _ _ _ (by rw [hx, Nat.succ_mul]; omega), hx,
        show (q + 1) * len + r - len = q * len + r by rw [Nat.succ_mul]; omega]
      exact ih (fun l hl => hlen l (List.mem_cons_of_mem x hl)) (by simpa using hq)

/-- Beat `r` of transfer `q` of transfers of one length. -/
theorem portBeats_getD {lines cell : Nat} {ts : List MapTransfer} (hts : ∀ t ∈ ts, t.beats lines = cell) {q r : Nat}
    {t : MapTransfer} (hq : ts[q]? = some t) (hr : r < cell + 2) :
    (portBeats lines ts).getD (q * (cell + 2) + r) .rest = (t.portBeats lines).getD r .rest := by
  cases ts with
  | nil => simp at hq
  | cons u us =>
    rw [← getD_append_rest, portBeats_append_rest, getD_flatten_blocks (len := cell + 2) (l := t.portBeats lines ++ [.rest, .rest]),
      getD_append_rest]
    · intro l hl
      obtain ⟨v, hv, rfl⟩ := List.mem_map.mp hl
      simp [MapTransfer.portBeats_length, hts v hv]
    · rw [List.getElem?_map, hq]
      rfl
    · exact hr

/-! ## The lines of the port (R51, R52) -/

theorem Env.transfers_idle {e : Env} (h : e.port = .idle) : e.transfers = [] := by simp only [Env.transfers, h]

theorem Env.transfers_imageRead {e : Env} (h : e.port = .imageRead) : e.transfers = [imageTransfer] := by
  simp only [Env.transfers, h]

theorem Env.transfers_fill {e : Env} (h : e.Inv) (hport : e.port = .fill) {n : Nat} (hn : n < 8)
    (hfill : (e.entry n).state = .filling) {k : Key} (hk : (e.entry n).key = some k) : e.transfers = tileTransfers k := by
  simp only [Env.transfers, hport, Env.fillingEntry_eq h hn hfill, hk]

/-- During a fill the transfers are four cell reads (R63). -/
theorem Env.transfers_of_fill {e : Env} (h : e.Inv) (hport : e.port = .fill) : ∃ k, e.transfers = tileTransfers k := by
  obtain ⟨n, hn, hfill⟩ := h.port.mp hport
  obtain ⟨k, hk⟩ := Option.ne_none_iff_exists'.mp fun hk => by
    simpa [hfill] using (h.keyed n hn).mp hk
  exact ⟨k, Env.transfers_fill h hport hn hfill hk⟩

/-- A beat of the present use: two of rest where it follows a cell read at once, then the transfers. -/
theorem Env.portBeat_eq (mw : BitVec 2) (e : Env) (beat : Nat) :
    e.portBeat mw beat =
      if beat < (if e.afterRead then 2 else 0) then .rest
      else (Machine.portBeats (dataLines mw) e.transfers).getD (beat - if e.afterRead then 2 else 0) .rest := by
  unfold Env.portBeat Env.portBeats
  cases e.afterRead with
  | false => simp
  | true =>
    simp only [if_true]
    by_cases h : beat < 2
    · rw [if_pos h, List.getD_append _ _ _ _ h]
      rcases beat with _ | _ | _
      · rfl
      · rfl
      · omega
    · rw [if_neg h, List.getD_append_right _ _ _ _ (not_lt.mp h)]
      rfl

theorem dataLines_eq {mw : BitVec 2} (h : mw ≠ 3) : dataLines mw = if mw = 0 then 1 else if mw = 1 then 2 else 4 := by
  revert h
  revert mw
  decide

/-- Without a transfer there is no beat but rest. -/
theorem Env.portBeat_idle (mw : BitVec 2) {e : Env} (h : e.port = .idle) (beat : Nat) : e.portBeat mw beat = .rest := by
  rw [Env.portBeat_eq, Env.transfers_idle h]
  exact ite_self _

/-- The beats of the image read (R153). -/
theorem Env.portBeat_imageRead (mw : BitVec 2) {e : Env} (h : e.Inv) (hport : e.port = .imageRead) (beat : Nat) :
    e.portBeat mw beat = (imageTransfer.portBeats (dataLines mw)).getD beat .rest := by
  have hafter : e.afterRead = false := Bool.eq_false_iff.mpr fun hg => by simpa [hport] using h.gap.1 hg
  rw [Env.portBeat_eq, hafter, Env.transfers_imageRead hport]
  simp [Machine.portBeats]

/-- The beats of an attempt of a fill, from its first cell read on (R52, R63). -/
theorem Env.portBeat_fill (mw : BitVec 2) (e : Env) {start : Nat} (hstart : start = if e.afterRead then 2 else 0) (i : Nat) :
    e.portBeat mw (start + i) = (Machine.portBeats (dataLines mw) e.transfers).getD i .rest := by
  rw [Env.portBeat_eq, ← hstart, if_neg (by omega), Nat.add_sub_cancel_left]

/-- The bits that a memory drives over its lines are those of the byte, and the receiver reads the byte. -/
theorem driveByte_spec {lines : Nat} (h : lines ∈ [1, 2, 4]) (b : Byte) :
    (driveByte lines b).length = 8 / lines ∧ (∀ beat ∈ driveByte lines b, beat.length = lines)
      ∧ (driveByte lines b).flatten = byteBits b := by
  simp only [List.mem_cons, List.not_mem_nil, or_false] at h
  rcases h with rfl | rfl | rfl <;> simp [driveByte, byteBits, List.range_succ_eq_map]

/-! ## The claim -/

/-- The service of FILL_SUCCESS and of CHECK_FAILURE, as the claim writes it. -/
theorem fillAttempt_ends (m : MapData) {s : State} {n : Nat} {k : Key} (hn : n < 8) (h : s.env.Inv)
    (hport : s.env.port = .fill) (hfill : (s.env.entry n).state = .filling) (hkey : (s.env.entry n).key = some k) :
    ((∀ a ∈ tileAddresses k, cellPasses m a = true) →
        fillSuccess m s =
          s.setEnv
            (if (s.env.entry n).discard then (s.env.dropEntry n (s.env.entry n).attempts).endFill
            else (s.env.setEntry n { s.env.entry n with state := .valid, cells := tileValues m k }).endFill))
      ∧ (∀ pos a, (tileAddresses k)[pos]? = some a → cellPasses m a = false →
          (∀ q < pos, ∀ b ∈ (tileAddresses k)[q]?, cellPasses m b = true) →
          checkFailure m s =
            if (s.env.entry n).discard then s.setEnv (s.env.dropEntry n ((s.env.entry n).attempts + 1)).endFill
            else if (s.env.entry n).attempts + 1 < 3 then
              s.setEnv
                { s.env.setEntry n { s.env.entry n with attempts := (s.env.entry n).attempts + 1 } with afterRead := true }
            else
              raise .env .mapFault pos (k.i * 256 + k.j)
                (s.setEnv
                  (s.env.setEntry n
                    { s.env.entry n with state := .defective, attempts := (s.env.entry n).attempts + 1 }).endFill)) := by
  refine ⟨fun hgood => ?_, fun pos a ha hbad hbefore => ?_⟩
  · rw [fillSuccess_passed m hn h hport hfill hkey (firstBadCell_none hgood)]
    split <;> rfl
  · exact checkFailure_failed m hn h hport hfill hkey (firstBadCell_some ha hbad hbefore)

/-- Settles O23: the attempts, the end of a fill, and the port, each by its lemmas above. -/
theorem fillEvents : Obligations.FillEvents := by
  refine ⟨fun m i j => ?_, fun m s n k hn h hport hfill hkey => ?_, fun e => ⟨Env.endFill_idle, fun k => Env.endFill_known, ?_⟩,
    fun e => ⟨?_, ?_, ?_, ?_⟩, ?_, ?_, portBeats_length, MapTransfer.sentBits_eq, ?_, ?_, ?_⟩
  · intro b a dis chg stress
    have hb (x : Nat) : (mapByte m x).toNat = b x := congrArg BitVec.toNat (mapByte_eq m x)
    have hw (x : Nat) : mapWord m x = b x * 256 + b (x + 1) := by rw [mapWord, hb, hb]
    have hvalues : cellValues m a = { dis, chg, stress } := by
      rw [cellValues, hw, hw, hw]
    refine ⟨rfl, hvalues, ?_⟩
    rw [cellPasses, beq_iff_eq, hvalues, hw]
  · intro x dropped put
    obtain ⟨hgood, hbad⟩ := fillAttempt_ends m hn h hport hfill hkey
    exact ⟨fun ha => next_congr (hgood ha), fun pos a ha hb hq => next_congr (hbad pos a ha hb hq)⟩
  · intro k hk hnew hperm
    obtain ⟨hlt, hempty, hleast⟩ := Env.victim_spec (e := { e with port := .idle, afterRead := false, pendingKey := none }) hperm
    exact ⟨_, hlt, hempty, hleast, Env.endFill_fills hk hnew⟩
  · intro h
    exact ⟨by simp [Env.mcs, h], by simp [Env.mck, h], Env.transfers_idle h⟩
  · intro h
    exact ⟨by simp [Env.mcs, h], by simp [Env.mck, h], Env.transfers_imageRead h⟩
  · intro h
    exact ⟨by simp [Env.mcs, h], by simp [Env.mck, h]⟩
  · intro n i j h hport hn hfill hkey
    rw [Env.transfers_fill h hport hn hfill hkey]
    simp only [tileTransfers, tileAddresses, cellAddress, List.map_cons, List.map_nil]
  · exact ⟨rfl, rfl, rfl, rfl, rfl, rfl, fun _ => ⟨rfl, rfl, rfl⟩⟩
  · intro mw e beat hmw h lines start cell
    have hlines : dataLines mw = lines := dataLines_eq hmw
    have hthree : lines = 1 ∨ lines = 2 ∨ lines = 4 := by
      simp only [lines]
      split
      · exact .inl rfl
      split
      · exact .inr (.inl rfl)
      · exact .inr (.inr rfl)
    have himage : imageTransfer.beats lines = 32 + 4112 / lines := by
      rcases hthree with h | h | h <;> rw [h] <;> rfl
    refine ⟨fun hport => Env.portBeat_idle mw hport beat, fun hport => ?_, fun hport => ?_⟩
    · rw [Env.portBeat_imageRead mw h hport, hlines, ← himage]
      exact ⟨fun b hb => MapTransfer.portBeats_send lines _ hb, fun h1 h2 => MapTransfer.portBeats_receive lines _ h1 h2,
        fun hle => MapTransfer.portBeats_rest lines _ hle⟩
    · obtain ⟨k, hk⟩ := Env.transfers_of_fill h hport
      have hbeats : ∀ t ∈ e.transfers, t.beats lines = cell := by
        intro t ht
        rw [hk] at ht
        obtain ⟨a, -, rfl⟩ := List.mem_map.mp ht
        simp only [MapTransfer.beats, cell]
        rcases hthree with h | h | h <;> rw [h]
      have hfill (i : Nat) : e.portBeat mw (start + i) = (portBeats lines e.transfers).getD i .rest := by
        rw [← hlines]
        exact Env.portBeat_fill mw e rfl i
      refine ⟨fun hlt => ?_, fun q t r hq hbeat => ?_, fun hle => ?_⟩
      · rw [Env.portBeat_eq]
        exact if_pos hlt
      · rw [hbeat, Nat.add_assoc, hfill]
        have ht := hbeats t (List.mem_of_getElem? hq)
        have hcell : 32 ≤ cell := Nat.le_add_right 32 _
        refine ⟨fun b hb => ?_, fun h1 h2 => ?_, fun h2 => ?_⟩
        · have hr : r < 32 := (List.getElem?_eq_some_iff.mp hb).1
          rw [portBeats_getD hbeats hq (by omega)]
          exact MapTransfer.portBeats_send lines t hb
        · rw [portBeats_getD hbeats hq (by omega)]
          exact MapTransfer.portBeats_receive lines t h1 (ht ▸ h2)
        · rw [portBeats_getD hbeats hq (by omega)]
          exact MapTransfer.portBeats_rest lines t (by omega)
      · obtain ⟨i, rfl⟩ := Nat.exists_eq_add_of_le ((by omega : start ≤ start + 4 * cell + 6).trans hle)
        rw [hfill, List.getD_eq_default]
        have hlen : transfersBeats lines e.transfers = 4 * cell + 6 := by
          rw [hk] at hbeats ⊢
          simp only [transfersBeats, tileTransfers, tileAddresses, List.map_cons, List.map_nil, List.sum_cons, List.sum_nil,
            List.length_cons, List.length_nil]
          simp only [tileTransfers, tileAddresses, List.map_cons, List.map_nil, List.mem_cons, List.not_mem_nil,
            or_false, forall_eq_or_imp, forall_eq] at hbeats
          obtain ⟨h0, h1, h2, h3⟩ := hbeats
          omega
        rw [portBeats_length, hlen]
        omega
  · intro lines hl
    refine ⟨fun b => ?_, ?_⟩
    · obtain ⟨hlen, hall, hflat⟩ := driveByte_spec hl b
      exact ⟨hlen, hall, hflat, by rw [receiveByte, hflat, bitsByte_byteBits]⟩
    · simp only [List.mem_cons, List.not_mem_nil, or_false] at hl
      rcases hl with rfl | rfl | rfl <;> decide
  · intro k
    simp [transfersBeats, MapTransfer.beats, tileTransfers, tileAddresses, dataLines]
  · simp [transfersBeats, MapTransfer.beats, imageTransfer, dataLines]

end Sys2Proof.Machine
end

section
/-!
PROOFS. The calibration set of an image (R152 to R154), and what MDC and DSP keep over every step: permit and line (R6 to R8), heat
(R45 to R48), the use of the port (R51, R74), the set and its checks (R154, R157, R159), and what is taken before a change of state
(R98, R104, R155).
-/
namespace Sys2Proof.Machine

/-! ## The calibration set (R152, R154, R159, Table 7-4) -/

/-- Every range of Table 7-4 holds a value. -/
theorem calRow_le {id : Nat} {lo hi d : Int} (h : calRow id = some (lo, hi, d)) : lo ≤ hi := by
  have hrows : ∀ r ∈ calScalarRows, r.2.1 ≤ r.2.2.1 := by decide
  unfold calRow at h
  split at h
  · simp only [Option.some.injEq, Prod.mk.injEq] at h
    omega
  split at h
  · simp only [Option.some.injEq, Prod.mk.injEq] at h
    omega
  · obtain ⟨r, hr, hrow⟩ := Option.map_eq_some_iff.mp h
    have hle := hrows r (List.mem_of_find?_eq_some hr)
    rw [hrow] at hle
    exact hle

/-- The ids of Table 7-4 are below 128. -/
theorem calKnown_lt {id : Nat} (h : calKnown id = true) : id < 128 := by
  have hrows : ∀ r ∈ calScalarRows, r.1 < 128 := by decide
  unfold calKnown calRow at h
  split at h
  · omega
  split at h
  · omega
  · rw [Option.isSome_map, List.find?_isSome] at h
    obtain ⟨r, hr, hid⟩ := h
    rw [← eq_of_beq hid]
    exact hrows r hr

theorem calClamp_idem (id : Nat) (v : Int) : calClamp id (calClamp id v) = calClamp id v := by
  unfold calClamp
  split
  next lo hi d hrow => exact clampInt_idem lo hi v (calRow_le hrow)
  · rfl

/-- A set in its ranges stays so when a clamped value is stored. -/
theorem Cal.InRange.set {c : Cal} (h : c.InRange) (id : Nat) (v : Int) : (c.set id (calClamp id v)).InRange := by
  intro id' hlt hknown
  by_cases he : id' = id
  · rw [he, Cal.get_set_same _ _ _ (he ▸ hlt), calClamp_idem]
  · rw [Cal.get_set_other _ _ _ _ he]
    exact h id' hlt hknown

/-- The set of a valid image, once the slots below `n` have been taken from it. -/
def imageCalUpTo (m : MapData) (n : Nat) : Cal :=
  (List.range n).foldl (fun c id => if calKnown id then c.set id (calClamp id (imageSlot m id)) else c) Cal.defaults

theorem imageCalUpTo_succ (m : MapData) (n : Nat) :
    imageCalUpTo m (n + 1) =
      if calKnown n then (imageCalUpTo m n).set n (calClamp n (imageSlot m n)) else imageCalUpTo m n := by
  simp [imageCalUpTo, List.range_succ]

theorem imageCal_eq (m : MapData) : imageCal m = imageCalUpTo m 128 := rfl

/-- Each known id below `n` holds its slot clamped, every other its default (R154). -/
theorem imageCalUpTo_get (m : MapData) (n : Nat) {id : Nat} (hid : id < 128) :
    (imageCalUpTo m n).get id =
      if id < n ∧ calKnown id = true then calClamp id (imageSlot m id) else Cal.defaults.get id := by
  induction n with
  | zero => simp [imageCalUpTo]
  | succ n ih =>
    rw [imageCalUpTo_succ]
    by_cases hk : calKnown n = true
    · rw [if_pos hk]
      by_cases he : id = n
      · subst he
        rw [Cal.get_set_same _ _ _ hid, if_pos ⟨Nat.lt_succ_self _, hk⟩]
      · rw [Cal.get_set_other _ _ _ _ he, ih]
        simp only [Nat.lt_succ_iff_lt_or_eq, he, or_false]
    · rw [if_neg hk, ih]
      by_cases he : id = n
      · subst he
        simp [hk]
      · simp only [Nat.lt_succ_iff_lt_or_eq, he, or_false]

theorem imageCal_get (m : MapData) {id : Nat} (hid : id < 128) (hknown : calKnown id = true) :
    (imageCal m).get id = calClamp id (imageSlot m id) := by
  rw [imageCal_eq, imageCalUpTo_get m 128 hid, if_pos ⟨hid, hknown⟩]

theorem imageCal_inRange (m : MapData) : (imageCal m).InRange := fun id hid hknown => by
  rw [imageCal_get m hid hknown, calClamp_idem]

theorem Cal.inRange_defaults : Cal.defaults.InRange := by
  intro id hid _
  rw [Cal.get_defaults id hid]
  revert hid id
  decide

/-! ## The invariant in parts -/

/-- The permit, its line, and what stands outside ACTIVE. -/
structure Dsp.Permitted (d : Dsp) (op : OpState) : Prop where
  line : d.tpermit = true ↔ d.permit = .on
  permit : d.permit = .off ↔ op ≠ .active
  idle : op ≠ .active → d.lastDemand = none ∧ d.demandTimer = none ∧ d.genPrev = 0
  genPrev : 0 ≤ d.genPrev ∧ d.genPrev ≤ 32767

/-- H, once DSP has taken the end of LOADING. -/
structure Dsp.HeatSound (d : Dsp) (m : Mdc) (waits : Bool) : Prop where
  heat : waits = false → d.heat ≤ m.cal.heatCap
  heatSet : m.op ≠ .loading → waits = false → d.heatSet = true

/-- The use of the port against the operating state and the straps. -/
structure Mdc.PortSound (m : Mdc) (p : PortState) : Prop where
  port : m.op = .loading ↔ p = .imageRead
  noMap : m.straps.mw = 3 → p = .idle

/-- The calibration set, and its checks in ACTIVE. -/
structure Mdc.SetSound (m : Mdc) : Prop where
  ranges : m.cal.InRange
  checked : m.op = .active → m.cal.firstFailure = none

/-- What has been taken in ACTIVE, and what does not wait outside it. -/
structure Mail.Timely (x : Mail) (op : OpState) : Prop where
  loaded : op = .active → x.loadEndDsp = false ∧ x.loadEndWru = false
  drained : op ≠ .active → x.engIn = [] ∧ x.rteIn = []

theorem controlInv_iff {s : State} :
    ControlInv s ↔
      s.dsp.Permitted s.mdc.op ∧ s.dsp.HeatSound s.mdc s.mail.loadEndDsp ∧ s.mdc.PortSound s.env.port ∧ s.mdc.SetSound
        ∧ s.mail.Timely s.mdc.op := by
  constructor
  · intro h
    exact ⟨⟨h.line, h.permit, h.idle, h.genPrev⟩, ⟨h.heat, h.heatSet⟩, ⟨h.port, h.noMap⟩, ⟨h.ranges, h.checked⟩,
      ⟨h.loaded, h.drained⟩⟩
  · rintro ⟨hpermit, hheat, hport, hset, hmail⟩
    exact ⟨hpermit.line, hpermit.permit, hpermit.idle, hpermit.genPrev, hheat.heat, hheat.heatSet, hport.port, hport.noMap,
      hset.ranges, hset.checked, hmail.loaded, hmail.drained⟩

/-- The invariant where only DSP and what waits have changed. -/
theorem ControlInv.of_dsp {s t : State} (h : ControlInv s) (hmdc : t.mdc = s.mdc) (hport : t.env.port = s.env.port)
    (hpermit : t.dsp.Permitted s.mdc.op) (hheat : t.dsp.HeatSound s.mdc t.mail.loadEndDsp)
    (hmail : t.mail.Timely s.mdc.op) : ControlInv t := by
  obtain ⟨-, -, hp, hset, -⟩ := controlInv_iff.mp h
  refine controlInv_iff.mpr ?_
  rw [hmdc, hport]
  exact ⟨hpermit, hheat, hp, hset, hmail⟩

theorem ControlInv.permitted {s : State} (h : ControlInv s) : s.dsp.Permitted s.mdc.op := (controlInv_iff.mp h).1

theorem ControlInv.heatSound {s : State} (h : ControlInv s) : s.dsp.HeatSound s.mdc s.mail.loadEndDsp :=
  (controlInv_iff.mp h).2.1

theorem ControlInv.portSound {s : State} (h : ControlInv s) : s.mdc.PortSound s.env.port := (controlInv_iff.mp h).2.2.1

theorem ControlInv.setSound {s : State} (h : ControlInv s) : s.mdc.SetSound := (controlInv_iff.mp h).2.2.2.1

theorem ControlInv.timely {s : State} (h : ControlInv s) : s.mail.Timely s.mdc.op := (controlInv_iff.mp h).2.2.2.2

/-- What waits may shrink. -/
theorem Mail.Timely.of_shrunk {x y : Mail} {op : OpState} (h : x.Timely op) (hdsp : x.loadEndDsp = false → y.loadEndDsp = false)
    (hwru : x.loadEndWru = false → y.loadEndWru = false) (heng : x.engIn = [] → y.engIn = [])
    (hrte : x.rteIn = [] → y.rteIn = []) : y.Timely op :=
  ⟨fun ha => ⟨hdsp (h.loaded ha).1, hwru (h.loaded ha).2⟩, fun ha => ⟨heng (h.drained ha).1, hrte (h.drained ha).2⟩⟩

/-- What the invariant reads of the mail. -/
def Mail.control (x : Mail) : Bool × Bool × List ResultRecord × List ResultRecord :=
  (x.loadEndDsp, x.loadEndWru, x.engIn, x.rteIn)

theorem Mail.Timely.of_eq {x y : Mail} {op : OpState} (h : x.Timely op) (he : y.control = x.control) : y.Timely op := by
  simp only [Mail.control, Prod.mk.injEq] at he
  obtain ⟨hdsp, hwru, heng, hrte⟩ := he
  exact ⟨hdsp ▸ hwru ▸ h.loaded, heng ▸ hrte ▸ h.drained⟩

/-- Nothing of it has changed. -/
theorem ControlInv.of_eq {s t : State} (h : ControlInv s) (hmdc : t.mdc = s.mdc) (hdsp : t.dsp = s.dsp)
    (hport : t.env.port = s.env.port) (hmail : t.mail.control = s.mail.control) : ControlInv t := by
  have hd : t.mail.loadEndDsp = s.mail.loadEndDsp := (Prod.mk.inj hmail).1
  refine h.of_dsp hmdc hport ?_ ?_ (h.timely.of_eq hmail)
  · rw [hdsp]
    exact h.permitted
  · rw [hdsp, hd]
    exact h.heatSound

/-! ## The commands that leave all of it alone -/

/-- The commands that can change what the invariant speaks of. -/
def changesControl : Instr → Bool
  | .powerOn _ | .resetn _ | .imageReadEnd _ | .heatInit | .wruLoadingGrade | .demand | .demandTimerExpiry | .heatUpdate
  | .rteResult | .engResultEvaluation | .fillSuccess _ | .checkFailure _ | .start | .halt | .restart | .calWrite | .mapFlush
  | .transmitEnd => true
  | _ => false

/-- What waits, as far as the invariant reads it. -/
def State.controlMail (s : State) : Bool × Bool × List ResultRecord × List ResultRecord := s.mail.control

theorem controlMail_kept_request (i : Instr) (hi : changesControl i = false) (hr : isRequest i = true) (s t : State)
    (h : exec i s = .next t) : t.controlMail = s.controlMail := by
  cases i <;> first | (cases hi; done) | (cases hr; done) | skip
  case unknownType => exact execUnknown_keeps State.controlMail _ (.inl rfl) s t h fun _ _ => rfl
  case queryUnknownTopic => exact execUnknown_keeps State.controlMail _ (.inr rfl) s t h fun _ _ => rfl
  case queryStatus | queryWearA | queryWearB | queryPredict | queryRoute | queryStartsA | queryStartsB | queryMap =>
    cases h
    exact takeQuery_keeps State.controlMail _ _ _ _ s (fun _ _ => rfl) (by intro s; simp [State.controlMail, Mail.control])
  all_goals
    cases h
    refine takeRequest_keeps State.controlMail _ _ _ s (fun _ _ => rfl) fun f s => ?_
    simp only [execFaultClear.serve, execCalRead.serve, execRouteLoad.serve, execRouteArm.serve, execRouteDepart.serve,
      execRouteSync.serve, execRouteClear.serve, execWearSeed.serve, execWearService.serve]
    (repeat' split) <;> simp [State.controlMail, Mail.control]

theorem controlMail_kept (i : Instr) (hi : changesControl i = false) (s t : State) (h : exec i s = .next t) :
    t.controlMail = s.controlMail := by
  by_cases hr : isRequest i = true
  · exact controlMail_kept_request i hi hr s t h
  cases i <;> first | (cases hi; done) | (exact absurd rfl hr) | skip
  all_goals
    simp only [exec, execCrankTimerExpiry, execPauseTimerExpiry, execWarmTimerExpiry, execStopHoldExpiry,
      execCooldownTimerExpiry, execWruResult, wruTakesNext, execEngineIncrement, wruTakesNextIncrement, execKmDistance,
      wruTakesNextDistance, execLampTimerExpiry, execFrameReceived, execGapTimerExpiry, execFramingFault, execLineBreak,
      execBreakWaitEnd, execMeasureStart, execMeasurementEnd, execStageAnswer, execStageNotice, execEventRaised,
      execCoalescingTimerExpiry, execCharacterReceived, execMeasureFirstRisingEdge, execMeasurementCountOverflow,
      stateTimerExpiry, execCrankTimerExpiry.act, execPauseTimerExpiry.act, execWarmTimerExpiry.act,
      Host.Outcome.next.injEq] at h
    subst h
    (repeat' split) <;> simp [State.controlMail, Mail.control]

/-- Every command that is not in the list changes none of the other three either. -/
theorem changesControl_covers {i : Instr} (h : changesControl i = false) :
    changesMdc i = false ∧ changesDsp i = false ∧ changesEnv i = false := by
  cases i <;> first | (cases h; done) | exact ⟨rfl, rfl, rfl⟩

theorem ControlInv.kept {s t : State} (h : ControlInv s) (i : Instr) (hi : changesControl i = false)
    (he : exec i s = .next t) : ControlInv t := by
  obtain ⟨hmdc, hdsp, henv⟩ := changesControl_covers hi
  exact h.of_eq (mdc_kept i hmdc s t he) (dsp_kept i hdsp s t he) (congrArg Env.port (env_kept i henv s t he))
    (controlMail_kept i hi s t he)

end Sys2Proof.Machine
end

section
/-!
PROOFS. MDC and DSP keep their invariant: each command that changes them, and RESTART.
-/
namespace Sys2Proof.Machine

/-! ## DSP's own events (R9, R10, R22, R45 to R48) -/

theorem Dsp.Permitted.setPermit_waitRelease {d : Dsp} {op : OpState} (h : d.Permitted op) (hop : op = .active) :
    (d.setPermit .waitRelease).Permitted op :=
  ⟨by simp [Dsp.setPermit], by simp [Dsp.setPermit, hop], fun hn => absurd hop hn, h.genPrev⟩

theorem Dsp.Permitted.setPermit_on {d : Dsp} {op : OpState} (h : d.Permitted op) (hop : op = .active) :
    (d.setPermit .on).Permitted op :=
  ⟨by simp [Dsp.setPermit], by simp [Dsp.setPermit, hop], fun hn => absurd hop hn, h.genPrev⟩

/-- Another field of DSP that the permit's rules do not read. -/
theorem Dsp.Permitted.of_eq {d e : Dsp} {op : OpState} (h : d.Permitted op) (hp : e.permit = d.permit)
    (ht : e.tpermit = d.tpermit) (hl : e.lastDemand = d.lastDemand) (hd : e.demandTimer = d.demandTimer)
    (hg : e.genPrev = d.genPrev) : e.Permitted op := by
  refine ⟨?_, ?_, ?_, ?_⟩
  · rw [hp, ht]; exact h.line
  · rw [hp]; exact h.permit
  · rw [hl, hd, hg]; exact h.idle
  · rw [hg]; exact h.genPrev

/-- A permit withdrawn is OFF, with nothing measured or slewed, outside ACTIVE (R8). -/
theorem Dsp.withdrawn_off_permitted (d : Dsp) {op : OpState} (hop : op ≠ .active) : (d.withdrawn .off).Permitted op :=
  ⟨by simp [Dsp.withdrawn, Dsp.setPermit], by simp [Dsp.withdrawn, Dsp.setPermit, hop], fun _ => ⟨rfl, rfl, rfl⟩,
    by simp [Dsp.withdrawn]⟩

theorem demandTimerExpiry_controlInv {s t : State} (h : ControlInv s) (he : exec .demandTimerExpiry s = .next t) :
    ControlInv t := by
  simp only [exec, execDemandTimerExpiry, Host.Outcome.next.injEq] at he
  subst he
  have hp := h.permitted
  have hstopped : ({ s.dsp with demandTimer := none } : Dsp).Permitted s.mdc.op :=
    ⟨hp.line, hp.permit, fun hn => ⟨(hp.idle hn).1, rfl, (hp.idle hn).2.2⟩, hp.genPrev⟩
  split
  · split
    next hon =>
      have hactive : s.mdc.op = .active := by
        by_contra hn
        rw [State.setDsp_dsp, hp.permit.mpr hn] at hon
        cases hon
      exact h.of_dsp rfl rfl ((hstopped.setPermit_waitRelease hactive).of_eq rfl rfl rfl rfl rfl)
        ⟨h.heatSound.heat, h.heatSound.heatSet⟩ (h.timely.of_eq rfl)
    all_goals exact h.of_dsp rfl rfl hstopped ⟨h.heatSound.heat, h.heatSound.heatSet⟩ h.timely
  · exact h

/-- The comparison with the thresholds sets or clears the mark only. -/
theorem heatMark_dsp (res : Int) (s : State) : ∃ mark, (heatMark res s).dsp = { s.dsp with hotMark := mark } := by
  unfold heatMark
  dsimp only
  split
  · exact ⟨true, rfl⟩
  split
  · exact ⟨false, rfl⟩
  · exact ⟨s.dsp.hotMark, rfl⟩

/-- H after a record, within the capacity (R45). -/
theorem heatTakes_dsp (x : ResultRecord) (s : State) :
    ∃ heat mark, heat ≤ s.cal.heatCap ∧ (heatTakes x s).dsp = { s.dsp with heat, hotMark := mark } := by
  obtain ⟨mark, hmark⟩ := heatMark_dsp x.shares.res (s.setDsp { s.dsp with heat := heatAfter s.cal s.dsp.heat x })
  exact ⟨_, mark, Nat.min_le_left _ _, hmark⟩

theorem heatUpdate_controlInv {s t : State} (h : ControlInv s) (he : exec .heatUpdate s = .next t) : ControlInv t := by
  simp only [exec, execHeatUpdate, heatTakesNext, Host.Outcome.next.injEq] at he
  subst he
  split
  · exact h
  next x rest hin =>
    obtain ⟨heat, mark, hle, hdsp⟩ := heatTakes_dsp x (s.setMail { s.mail with heatIn := rest })
    refine h.of_dsp (by simp) (by simp) ?_ ?_ (h.timely.of_eq (by simp [Mail.control]))
    · rw [hdsp]
      exact h.permitted.of_eq rfl rfl rfl rfl rfl
    · rw [hdsp]
      exact ⟨fun _ => hle, fun hl hw => h.heatSound.heatSet hl (by simpa using hw)⟩

theorem clampHeat_le (s : State) : (clampHeat s).dsp.heat ≤ s.cal.heatCap := Nat.min_le_right _ _

theorem Cal.heatHot_le_heatCap (c : Cal) : c.heatHot ≤ c.heatCap := Nat.mul_le_mul_left _ (by decide)

/-- Once DSP has taken the end of LOADING, H is within the capacity (R47). -/
theorem dspTakesLoadEnd_controlInv {s : State} (h : ControlInv s) : ControlInv (dspTakesLoadEnd s) := by
  unfold dspTakesLoadEnd
  split
  · dsimp only
    have hmail : ({ s.mail with loadEndDsp := false } : Mail).Timely s.mdc.op :=
      h.timely.of_shrunk (fun _ => rfl) id id id
    split
    next hset =>
      exact h.of_dsp rfl rfl (h.permitted.of_eq rfl rfl rfl rfl rfl)
        ⟨fun _ => clampHeat_le (s.setMail { s.mail with loadEndDsp := false }), fun _ _ => hset⟩ hmail
    · exact h.of_dsp rfl rfl (h.permitted.of_eq rfl rfl rfl rfl rfl) ⟨fun _ => s.cal.heatHot_le_heatCap, fun _ _ => rfl⟩ hmail
  · exact h

/-! ## A dispatch (R3, R7, R9, R22, R26) -/

/-- The next P_gen_prev lies in the range of Table 1-1. -/
theorem decideShares_genPrev {x : DispatchInput} (hprev : 0 ≤ x.genPrev) (havail : x.fields.genAvail ≤ 32767) :
    0 ≤ (decideShares x).genPrev ∧ (decideShares x).genPrev ≤ 32767 := by
  rcases decideShares_cases x with e | ⟨mode, -, e⟩ <;> rw [e]
  · exact ⟨le_refl _, by simp [blendDecision]⟩
  · have hgen := startGen_nonneg hprev mode
    have hle : startGen x mode ≤ x.fields.genAvail := genSetPoint_le (genPreference_le_genAvail x _)
    have hheld := heldPowers_gen_between x mode
    have hnext : (splitDecision x mode).genPrev = if x.engine.generates then (heldPowers x mode).2.1 else 0 := rfl
    rw [hnext]
    split <;> omega

/-- What a dispatch makes of DSP: the taking of the DEMAND, the next P_gen_prev and the record. -/
theorem dispatch_dsp (x : DemandFields) (s : State) :
    ∃ record, (dispatch x s).dsp =
      { (demandTaken x s).dsp with genPrev := (decideShares (inputAtTake x s)).genPrev, record } := by
  have hmdc : (demandTaken x s).mdc = s.mdc := by simp
  have henv : (demandTaken x s).env = s.env := by simp
  unfold dispatch inputAtTake State.cal
  simp only [hmdc, henv]
  exact ⟨_, rfl⟩

theorem demandTaken_permitted (x : DemandFields) {s : State} (h : s.dsp.Permitted s.mdc.op) (hop : s.mdc.op = .active) :
    (demandTaken x s).dsp.Permitted s.mdc.op := by
  have hsettled : (settlePermit x s).dsp.Permitted s.mdc.op := by
    unfold settlePermit
    split
    · exact h.setPermit_on hop
    · exact h
  exact ⟨hsettled.line, hsettled.permit, fun hn => absurd hop hn, hsettled.genPrev⟩

/-- The taking of a DEMAND leaves H and its mark of a value alone. -/
theorem demandTaken_heatSet (x : DemandFields) (s : State) : (demandTaken x s).dsp.heatSet = s.dsp.heatSet := by
  unfold demandTaken settlePermit
  split <;> rfl

/-- A lookup uses the port for a fill only, and not without a map memory (R51, R74). -/
theorem envLookup_port (c : Cal) (noMap : Bool) (temp : Int) (soc : Nat) (e : Env) :
    (envLookup c noMap temp soc e).2.2.port = e.port
      ∨ (noMap = false ∧ e.port ≠ .imageRead ∧ (envLookup c noMap temp soc e).2.2.port = .fill) := by
  cases noMap with
  | true => exact .inl rfl
  | false =>
    cases hf : e.findTile (lookupKey temp soc) with
    | some n =>
      rw [envLookup_found hf]
      cases (e.entry n).state <;> exact .inl rfl
    | none =>
      rw [envLookup_missed hf]
      cases hport : e.port with
      | idle => exact .inr ⟨rfl, by simp, rfl⟩
      | fill => exact .inl rfl
      | imageRead => exact .inl hport

theorem dispatch_controlInv (p : List Byte) {s : State} (h : ControlInv s) (hop : s.mdc.op = .active) :
    ControlInv (dispatch (demandFields p) s) := by
  obtain ⟨record, hdsp⟩ := dispatch_dsp (demandFields p) s
  have hprev : (inputAtTake (demandFields p) s).genPrev = s.dsp.genPrev := (demandTaken_heat_genPrev (demandFields p) s).2
  have hnext := decideShares_genPrev (x := inputAtTake (demandFields p) s) (hprev ▸ h.genPrev.1)
    (Nat.min_le_left 32767 _)
  have htaken := demandTaken_permitted (demandFields p) h.permitted hop
  refine controlInv_iff.mpr ?_
  rw [dispatch_env]
  simp only [dispatch_leaves]
  refine ⟨?_, ?_, ?_, h.setSound, ?_⟩
  · rw [hdsp]
    exact ⟨htaken.line, htaken.permit, fun hn => absurd hop hn, hnext⟩
  · rw [hdsp]
    refine ⟨fun hw => ?_, fun hl hw => ?_⟩
    · exact (demandTaken_heat_genPrev (demandFields p) s).1.trans_le (h.heatSound.heat hw)
    · exact (demandTaken_heatSet (demandFields p) s).trans (h.heatSound.heatSet hl hw)
  · rcases envLookup_port s.cal (s.mdc.straps.mw == 3) (demandFields p).temp (demandFields p).soc s.env with
      e | ⟨hmap, hidle, e⟩ <;> rw [e]
    · exact h.portSound
    · refine ⟨⟨fun hl => ?_, fun hf => by cases hf⟩, fun hmw => ?_⟩
      · rw [hop] at hl
        cases hl
      · simp [hmw] at hmap
  · exact ⟨fun _ => by simpa using h.loaded hop, fun hn => absurd hop hn⟩

/-! ## The fill events, and records taken (R66, R68, R78, R109, R141) -/

theorem Env.endFill_port (e : Env) : e.endFill.port = .idle ∨ e.endFill.port = .fill := by
  unfold Env.endFill
  dsimp only
  split
  · exact .inl rfl
  split
  · exact .inl rfl
  · exact .inr rfl

/-- A fill event comes from FILL, and does not lead into IMAGE_READ. -/
theorem Mdc.PortSound.of_fill {m : Mdc} (h : m.PortSound .fill) {p : PortState} (hp : p = .idle ∨ p = .fill) :
    m.PortSound p := by
  refine ⟨⟨fun hl => ?_, fun hi => ?_⟩, fun hmw => ?_⟩
  · cases h.port.mp hl
  · subst hi
    rcases hp with hp | hp <;> cases hp
  · cases h.noMap hmw

theorem fillSuccess_port (m : MapData) (s : State) :
    (fillSuccess m s).env.port = s.env.port
      ∨ (s.env.port = .fill ∧ ((fillSuccess m s).env.port = .idle ∨ (fillSuccess m s).env.port = .fill)) := by
  unfold fillSuccess
  split
  next n hport _ =>
    refine .inr ⟨hport, ?_⟩
    dsimp only
    (repeat' split) <;> first | exact Env.endFill_port _ | exact .inr hport
  · exact .inl rfl

theorem checkFailure_port (m : MapData) (s : State) :
    (checkFailure m s).env.port = s.env.port
      ∨ (s.env.port = .fill ∧ ((checkFailure m s).env.port = .idle ∨ (checkFailure m s).env.port = .fill)) := by
  unfold checkFailure
  split
  next n hport _ =>
    refine .inr ⟨hport, ?_⟩
    dsimp only
    (repeat' split) <;> first | exact Env.endFill_port _ | exact .inr hport
  · exact .inl rfl

/-- The invariant where only ENV and the events raised have changed, and the port as a fill event changes it. -/
theorem ControlInv.of_fill_event {s t : State} (h : ControlInv s) (hmdc : t.mdc = s.mdc) (hdsp : t.dsp = s.dsp)
    (hmail : t.mail.control = s.mail.control)
    (hport : t.env.port = s.env.port ∨ (s.env.port = .fill ∧ (t.env.port = .idle ∨ t.env.port = .fill))) :
    ControlInv t := by
  rcases hport with hport | ⟨hfill, hport⟩
  · exact h.of_eq hmdc hdsp hport hmail
  · have hwait : t.mail.loadEndDsp = s.mail.loadEndDsp := (Prod.mk.inj hmail).1
    refine controlInv_iff.mpr ?_
    rw [hmdc, hdsp, hwait]
    exact ⟨h.permitted, h.heatSound, (hfill ▸ h.portSound).of_fill hport, h.setSound, h.timely.of_eq hmail⟩

theorem fillSuccess_controlInv (m : MapData) {s : State} (h : ControlInv s) : ControlInv (fillSuccess m s) :=
  h.of_fill_event (by simp) (by simp) (by simp [Mail.control]) (fillSuccess_port m s)

theorem checkFailure_controlInv (m : MapData) {s : State} (h : ControlInv s) : ControlInv (checkFailure m s) :=
  h.of_fill_event (by simp) (by simp) (by simp [Mail.control]) (checkFailure_port m s)

/-- The invariant where what waits has only shrunk. -/
theorem ControlInv.of_shrunk {s t : State} (h : ControlInv s) (hmdc : t.mdc = s.mdc) (hdsp : t.dsp = s.dsp)
    (henv : t.env = s.env) (hwait : t.mail.loadEndDsp = s.mail.loadEndDsp)
    (hwru : s.mail.loadEndWru = false → t.mail.loadEndWru = false) (heng : s.mail.engIn = [] → t.mail.engIn = [])
    (hrte : s.mail.rteIn = [] → t.mail.rteIn = []) : ControlInv t := by
  refine h.of_dsp hmdc (congrArg Env.port henv) ?_ ?_ (h.timely.of_shrunk (fun hd => hwait.trans hd) hwru heng hrte)
  · rw [hdsp]
    exact h.permitted
  · rw [hdsp, hwait]
    exact h.heatSound

theorem rteTakesNext_controlInv {s : State} (h : ControlInv s) : ControlInv (rteTakesNext s) := by
  unfold rteTakesNext
  split
  · exact h
  next x rest hin =>
    exact h.of_shrunk (by simp) (by simp) (by simp) (by simp) (by simp) (by simp) (by simp [hin])

theorem engTakesNext_controlInv {s : State} (h : ControlInv s) : ControlInv (engTakesNext s) := by
  unfold engTakesNext
  split
  · exact h
  next x rest hin =>
    exact h.of_shrunk (by simp) (by simp) (by simp) (by simp) (by simp) (by simp [hin]) (by simp)

theorem wruTakesLoadEnd_controlInv {s : State} (h : ControlInv s) : ControlInv (wruTakesLoadEnd s) := by
  unfold wruTakesLoadEnd
  split
  · dsimp only
    split
    · exact h.of_shrunk (by simp) (by simp) (by simp) (by simp) (by simp) (by simp) (by simp)
    · exact h.of_shrunk rfl rfl rfl rfl (fun _ => rfl) id id
  · exact h

/-! ## LOADING, the resets and RESTART (R47, R150, R153 to R155, R161) -/

/-- The end of LOADING leads to CONFIG with both of its takers still to act. -/
theorem finishLoading_controlInv {c : Cal} {s : State} (hc : c.InRange) (hdsp : ∀ op, op ≠ .active → s.dsp.Permitted op)
    (hport : s.env.port = .idle) (hmail : s.mail.engIn = [] ∧ s.mail.rteIn = []) : ControlInv (finishLoading c s) := by
  have hconfig : OpState.config ≠ .active := by decide
  refine controlInv_iff.mpr ⟨hdsp _ hconfig, ⟨fun hw => (by cases hw), fun _ hw => by cases hw⟩, ⟨⟨fun hl => (by cases hl), ?_⟩,
    fun _ => hport⟩, ⟨hc, fun ha => by cases ha⟩, ⟨fun ha => (by cases ha), fun _ => hmail⟩⟩
  intro hi
  exact absurd (hport.symm.trans hi) (by decide)

theorem keepDefaults_controlInv {s : State} (a : Nat) (hdsp : ∀ op, op ≠ .active → s.dsp.Permitted op)
    (hport : s.env.port = .idle) (hmail : s.mail.engIn = [] ∧ s.mail.rteIn = []) : ControlInv (keepDefaults a s) :=
  finishLoading_controlInv Cal.inRange_defaults hdsp hport hmail

/-- LOADING entered with the reset values of DSP and ENV, H within the capacity and nothing waiting. -/
theorem enterLoading_controlInv {s : State} (hdsp : ∀ op, op ≠ .active → s.dsp.Permitted op)
    (hport : s.env.port = .idle) (hmail : s.mail = Mail.reset) (hc : s.cal.InRange) (hheat : s.dsp.heat ≤ s.cal.heatCap) :
    ControlInv (enterLoading s) := by
  have hdrained : s.mail.engIn = [] ∧ s.mail.rteIn = [] := by simp [hmail, Mail.reset]
  by_cases hmw : s.mdc.straps.mw = 3
  · rw [enterLoading_noMap hmw]
    exact keepDefaults_controlInv 1 hdsp hport hdrained
  by_cases hskip : s.mdc.straps.calskip = true
  · rw [enterLoading_skip hmw hskip]
    exact keepDefaults_controlInv 0 hdsp hport hdrained
  · rw [enterLoading_read hmw hskip]
    have hloading : OpState.loading ≠ .active := by decide
    exact controlInv_iff.mpr ⟨hdsp _ hloading, ⟨fun _ => hheat, fun hn => absurd rfl hn⟩,
      ⟨⟨fun _ => rfl, fun _ => rfl⟩, fun h3 => absurd h3 hmw⟩, ⟨hc, fun ha => by cases ha⟩,
      ⟨fun ha => (by cases ha), fun _ => hdrained⟩⟩

/-- DSP's reset values, whatever H is (Table 1-2). -/
theorem Dsp.restarted_permitted (d : Dsp) {op : OpState} (hop : op ≠ .active) : d.restarted.Permitted op :=
  (Dsp.withdrawn_off_permitted d hop).of_eq rfl rfl rfl rfl rfl

theorem enterLoading_resetValues_controlInv (straps : Straps) (s : State) :
    ControlInv (enterLoading (resetValues straps s)) :=
  enterLoading_controlInv (fun _ hop => (Dsp.restarted_permitted Dsp.reset hop).of_eq rfl rfl rfl rfl rfl) rfl rfl
    Cal.inRange_defaults (Nat.zero_le _)

theorem imageReadEnd_controlInv (m : MapData) {s t : State} (h : ControlInv s) (he : exec (.imageReadEnd m) s = .next t) :
    ControlInv t := by
  simp only [exec, execImageReadEnd, Host.Outcome.next.injEq] at he
  subst he
  split
  next hdue =>
    simp only [Bool.and_eq_true, beq_iff_eq] at hdue
    have hnot : s.mdc.op ≠ .active := by simp [hdue.1]
    have hdrained := h.drained hnot
    have hdsp : ∀ op, op ≠ .active → s.dsp.Permitted op := fun op hop =>
      ⟨h.line, ⟨fun _ => hop, fun _ => h.permit.mpr hnot⟩, fun _ => h.idle hnot, h.genPrev⟩
    split
    · rw [foldl_raise]
      exact finishLoading_controlInv (imageCal_inRange m) hdsp rfl hdrained
    · exact keepDefaults_controlInv 2 hdsp rfl hdrained
  · exact h

/-- H within the capacity of a set in its ranges. -/
def State.HeatWithin (s : State) : Prop := s.cal.InRange ∧ s.dsp.heat ≤ s.cal.heatCap

/-- A command that leaves MDC and DSP alone keeps it. -/
theorem State.HeatWithin.kept {s t : State} (h : s.HeatWithin) (i : Instr) (hm : changesMdc i = false)
    (hd : changesDsp i = false) (he : exec i s = .next t) : t.HeatWithin := by
  unfold State.HeatWithin State.cal
  rw [mdc_kept i hm s t he, dsp_kept i hd s t he]
  exact h

/-- The end of LOADING once taken, H is within the capacity. -/
theorem dspTakesLoadEnd_heatWithin {s : State} (h : ControlInv s) : (dspTakesLoadEnd s).HeatWithin := by
  have htaken := dspTakesLoadEnd_controlInv h
  refine ⟨htaken.ranges, htaken.heat ?_⟩
  cases hw : s.mail.loadEndDsp with
  | false => rw [dspTakesLoadEnd_idle hw, hw]
  | true =>
    simp only [dspTakesLoadEnd, hw, if_true]
    split <;> rfl

theorem heatTakesNext_heatWithin {s : State} (h : s.HeatWithin) : (heatTakesNext s).HeatWithin := by
  unfold heatTakesNext
  split
  · exact h
  next x rest hin =>
    obtain ⟨heat, mark, hle, hdsp⟩ := heatTakes_dsp x (s.setMail { s.mail with heatIn := rest })
    unfold State.HeatWithin
    rw [hdsp]
    exact ⟨by simpa using h.1, by simpa using hle⟩

theorem takeAllWaiting_heatWithin {s : State} (h : ControlInv s) : (takeAllWaiting s).HeatWithin := by
  have hloaded : (wruTakesLoadEnd (dspTakesLoadEnd s)).HeatWithin :=
    (dspTakesLoadEnd_heatWithin h).kept .wruLoadingGrade rfl rfl rfl
  have hrte : ∀ s, s.HeatWithin → (rteTakesNext s).HeatWithin := fun _ h => h.kept .rteResult rfl rfl rfl
  have heng : ∀ s, s.HeatWithin → (engTakesNext s).HeatWithin := fun _ h => h.kept .engResultEvaluation rfl rfl rfl
  have hwru : ∀ s, s.HeatWithin → (wruTakesNext s).HeatWithin := fun _ h => h.kept .wruResult rfl rfl rfl
  have hinc : ∀ s, s.HeatWithin → (wruTakesNextIncrement s).HeatWithin := fun _ h => h.kept .engineIncrement rfl rfl rfl
  have hkm : ∀ s, s.HeatWithin → (wruTakesNextDistance s).HeatWithin := fun _ h => h.kept .kmDistance rfl rfl rfl
  unfold takeAllWaiting
  dsimp only
  apply Function.Iterate.rec State.HeatWithin (app := hkm)
  apply Function.Iterate.rec State.HeatWithin (app := hinc)
  apply Function.Iterate.rec State.HeatWithin (app := hwru)
  apply Function.Iterate.rec State.HeatWithin (app := heng)
  apply Function.Iterate.rec State.HeatWithin (app := hrte)
  apply Function.Iterate.rec State.HeatWithin (app := fun _ => heatTakesNext_heatWithin)
  exact hloaded

theorem countHotStop_heatWithin {s : State} (h : s.HeatWithin) : (countHotStop s).HeatWithin := by
  unfold countHotStop
  split
  · simpa [State.HeatWithin] using h
  · exact h

theorem restartEffect_controlInv {s : State} (h : ControlInv s) : ControlInv (restartEffect s) := by
  have hwithin := countHotStop_heatWithin (takeAllWaiting_heatWithin h)
  unfold restartEffect
  dsimp only
  generalize countHotStop (takeAllWaiting s) = taken at hwithin ⊢
  exact enterLoading_controlInv (fun _ => taken.dsp.restarted_permitted) rfl rfl hwithin.1 hwithin.2

theorem transmitEnd_controlInv {s t : State} (h : ControlInv s) (he : exec .transmitEnd s = .next t) : ControlInv t := by
  simp only [exec, execTransmitEnd, Host.Outcome.next.injEq] at he
  subst he
  split
  · exact h
  · split
    · exact restartEffect_controlInv h
    · exact h.of_eq rfl rfl rfl rfl

/-! ## Requests (R7, R8, R71, R157 to R161) -/

/-- The queues of the link are not read by the invariant. -/
theorem ControlInv.setLnk {s : State} (h : ControlInv s) (x : Lnk) : ControlInv (s.setLnk x) := h.of_eq rfl rfl rfl rfl

theorem ControlInv.replied {s : State} (h : ControlInv s) (e : Byte) (st : Status) (d : Nat) :
    ControlInv (reply e st d s) := h.setLnk _

/-- A request keeps the invariant where its service does, on a frame for which what it waits for has happened. -/
theorem takeRequest_controlInv {s : State} (type : Byte) {ready : Frame → State → Bool} {serve : Frame → State → State}
    (hready : ∀ f x, ready f (s.setLnk x) = ready f s)
    (hserve : ∀ f s, ControlInv s → ready f s = true → ControlInv (serve f s)) (h : ControlInv s) :
    ControlInv (takeRequest type ready serve s) := by
  rcases takeRequest_cases type ready serve s with e | ⟨f, rest, -, -, ⟨-, e⟩ | ⟨-, hr, e⟩⟩ <;> rw [e]
  · exact h
  · exact h.setLnk _
  · exact hserve f _ (h.setLnk _) ((hready f _).trans hr)

theorem demandServe_controlInv (f : Frame) {s : State} (h : ControlInv s) : ControlInv (execDemand.serve f s) := by
  unfold execDemand.serve
  split
  · exact dispatch_controlInv f.payload h ‹_›
  all_goals exact h.setLnk _

/-- A START served past its checks finds the end of LOADING taken (R155). -/
theorem start_ready_loaded {f : Frame} {s : State} (h : execStart.ready f s = true) (hop : s.mdc.op = .config)
    (hcheck : s.cal.firstFailure = none) : s.mail.loadEndDsp = false ∧ s.mail.loadEndWru = false := by
  simpa [execStart.ready, hop, hcheck] using h

theorem startServe_controlInv (f : Frame) {s : State} (h : ControlInv s) (hready : execStart.ready f s = true) :
    ControlInv (execStart.serve f s) := by
  unfold execStart.serve
  split
  next hop =>
    split
    · exact h.replied _ _ _
    next hcheck =>
      have hloaded := start_ready_loaded hready hop hcheck
      have hport : s.env.port ≠ .imageRead := fun hi => by
        have hl := h.port.mpr hi
        rw [hop] at hl
        cases hl
      refine controlInv_iff.mpr ?_
      simp only [rteStart_leaves]
      refine ⟨⟨?_, ?_, fun hn => absurd rfl hn, ?_⟩, ⟨h.heat, fun _ hw => h.heatSet ?_ hw⟩,
        ⟨⟨fun hl => ?_, fun hi => absurd hi hport⟩, h.noMap⟩, ⟨h.ranges, fun _ => hcheck⟩, ⟨fun _ => ?_, fun hn => absurd rfl hn⟩⟩
      · simp [dspStart, Dsp.withdrawn, Dsp.setPermit]
      · simp [dspStart, Dsp.withdrawn, Dsp.setPermit]
      · simp [dspStart, Dsp.withdrawn]
      · simp [hop]
      · cases hl
      · simpa using hloaded
  all_goals exact h.replied _ _ _

/-- A HALT served in ACTIVE finds every record taken (R98, R104). -/
theorem halt_ready_drained {f : Frame} {s : State} (h : execHalt.ready f s = true) (hop : s.mdc.op = .active) :
    s.mail.engIn = [] ∧ s.mail.rteIn = [] := by
  simpa [execHalt.ready, hop] using h

theorem haltServe_controlInv (f : Frame) {s : State} (h : ControlInv s) (hready : execHalt.ready f s = true) :
    ControlInv (execHalt.serve f s) := by
  unfold execHalt.serve
  split
  next hop =>
    have hdrained := halt_ready_drained hready hop
    have hnot : OpState.config ≠ .active := by decide
    have hport : s.env.port ≠ .imageRead := fun hi => by
      have hl := h.port.mpr hi
      rw [hop] at hl
      cases hl
    refine controlInv_iff.mpr ?_
    simp only [engHalt_leaves]
    refine ⟨Dsp.withdrawn_off_permitted _ hnot, ⟨h.heat, fun _ hw => h.heatSet (by simp [hop]) (by simpa using hw)⟩,
      ⟨⟨fun hl => (by cases hl), fun hi => absurd hi hport⟩, h.noMap⟩, ⟨h.ranges, fun ha => by cases ha⟩,
      ⟨fun ha => (by cases ha), fun _ => ?_⟩⟩
    simpa using hdrained
  all_goals exact h.replied _ _ _

theorem restartServe_controlInv (f : Frame) {s : State} (h : ControlInv s) : ControlInv (execRestart.serve f s) :=
  controlInv_iff.mpr ⟨h.permitted, ⟨h.heat, h.heatSet⟩, ⟨h.port, h.noMap⟩, ⟨h.ranges, h.checked⟩, h.timely⟩

theorem mapFlushServe_controlInv (f : Frame) {s : State} (h : ControlInv s) : ControlInv (execMapFlush.serve f s) := by
  unfold execMapFlush.serve
  split
  · exact h.replied _ _ _
  · exact ControlInv.replied (h.of_eq (t := s.setEnv s.env.flush) rfl rfl rfl rfl) _ _ _

theorem calWriteServe_controlInv (f : Frame) {s : State} (h : ControlInv s) : ControlInv (execCalWrite.serve f s) := by
  unfold execCalWrite.serve
  split
  next hop =>
    dsimp only
    split
    next hknown =>
      refine ControlInv.replied ?_ _ _ _
      generalize hid : byteAt f.payload 0 = id at hknown
      have hnot : s.mdc.op ≠ .active := by simp [hop]
      have hset := h.ranges.set id (calValue id (u32At f.payload 1))
      have hchecked : s.mdc.op = .active →
          (s.cal.set id (calClamp id (calValue id (u32At f.payload 1)))).firstFailure = none := fun ha => absurd ha hnot
      unfold calWriteEffect
      split
      next h27 =>
        have hsound := h.permitted.of_eq (e := (clampHeat
          (s.setMdc { s.mdc with cal := s.cal.set id (calClamp id (calValue id (u32At f.payload 1))) })).dsp) rfl rfl rfl rfl rfl
        exact controlInv_iff.mpr ⟨hsound, ⟨fun _ => clampHeat_le _, h.heatSet⟩, ⟨h.port, h.noMap⟩, ⟨hset, hchecked⟩, h.timely⟩
      next h27 =>
        have hcap : (s.cal.set id (calClamp id (calValue id (u32At f.payload 1)))).heatCap = s.cal.heatCap := by
          unfold Cal.heatCap Cal.resCapKj Cal.nat
          rw [Cal.get_set_other _ _ _ _ (Ne.symm h27)]
        have hwritten : ControlInv
            (s.setMdc { s.mdc with cal := s.cal.set id (calClamp id (calValue id (u32At f.payload 1))) }) :=
          controlInv_iff.mpr ⟨h.permitted, ⟨fun hw => (h.heat hw).trans_eq hcap.symm, h.heatSet⟩, ⟨h.port, h.noMap⟩,
            ⟨hset, hchecked⟩, h.timely⟩
        split
        · exact hwritten.of_eq (by simp) (by simp) (by simp) (by simp [Mail.control])
        · exact hwritten
    · exact h.replied _ _ _
  all_goals exact h.replied _ _ _

/-! ## Every command and every step -/

theorem exec_controlInv (i : Instr) {s t : State} (h : ControlInv s) (he : exec i s = .next t) : ControlInv t := by
  by_cases hi : changesControl i = false
  · exact h.kept i hi he
  cases i
  case powerOn straps | resetn straps => cases he; exact enterLoading_resetValues_controlInv straps s
  case imageReadEnd m => exact imageReadEnd_controlInv m h he
  case heatInit => cases he; exact dspTakesLoadEnd_controlInv h
  case wruLoadingGrade => cases he; exact wruTakesLoadEnd_controlInv h
  case demand => cases he; exact takeRequest_controlInv _ (fun _ _ => rfl) (fun f _ h _ => demandServe_controlInv f h) h
  case demandTimerExpiry => exact demandTimerExpiry_controlInv h he
  case heatUpdate => exact heatUpdate_controlInv h he
  case rteResult => cases he; exact rteTakesNext_controlInv h
  case engResultEvaluation => cases he; exact engTakesNext_controlInv h
  case fillSuccess m => cases he; exact fillSuccess_controlInv m h
  case checkFailure m => cases he; exact checkFailure_controlInv m h
  case start => cases he; exact takeRequest_controlInv _ (fun _ _ => rfl) (fun f _ => startServe_controlInv f) h
  case halt => cases he; exact takeRequest_controlInv _ (fun _ _ => rfl) (fun f _ => haltServe_controlInv f) h
  case restart => cases he; exact takeRequest_controlInv _ (fun _ _ => rfl) (fun f _ h _ => restartServe_controlInv f h) h
  case calWrite => cases he; exact takeRequest_controlInv _ (fun _ _ => rfl) (fun f _ h _ => calWriteServe_controlInv f h) h
  case mapFlush => cases he; exact takeRequest_controlInv _ (fun _ _ => rfl) (fun f _ h _ => mapFlushServe_controlInv f h) h
  case transmitEnd => exact transmitEnd_controlInv h he
  all_goals exact absurd rfl hi

/-- Settles O54: every command keeps the invariant, and a millisecond changes nothing that it reads. -/
theorem controlKept : Obligations.ControlKept := by
  intro s t h he
  unfold step at he
  split at he
  · cases he
    exact controlInv_iff.mpr ⟨h.permitted, ⟨h.heat, h.heatSet⟩, ⟨h.port, h.noMap⟩, ⟨h.ranges, h.checked⟩, h.timely⟩
  · refine exec_controlInv _ ?_ he
    exact h.of_eq rfl rfl rfl rfl

end Sys2Proof.Machine
end

section
/-!
PROOFS. The Link Controller: a character received (R163, R166 to R169), the faults of the receiver (R165, R168), rate detection
(R164), staging and the frame on the line (R162, R163, R166, R171, R172, R182).
-/
namespace Sys2Proof.Machine

/-! ## The bytes of a frame being assembled (Table 8-5, R166, R167) -/

theorem frameComplete_iff (bytes : List Byte) :
    frameComplete bytes = true ↔ ∃ n : Byte, bytes[2]? = some n ∧ 5 + n.toNat ≤ bytes.length := by
  unfold frameComplete frameLength
  cases bytes[2]? <;> simp

section
variable (lead type n hi lo : Byte) (payload : List Byte)

theorem frameComplete_frame :
    frameComplete (lead :: type :: n :: payload ++ [hi, lo]) = true ↔ n.toNat ≤ payload.length := by
  rw [frameComplete_iff]
  simp
  omega

theorem byteAt_append_two (bytes : List Byte) :
    byteAt (bytes ++ [hi, lo]) bytes.length = hi.toNat ∧ byteAt (bytes ++ [hi, lo]) (bytes.length + 1) = lo.toNat := by
  simp [byteAt, List.getD_eq_getElem?_getD]

theorem frameValid_frame :
    frameValid (lead :: type :: n :: payload ++ [hi, lo]) = true ↔
      (crc16 (type :: n :: payload)).toNat = hi.toNat * 256 + lo.toNat := by
  have hlen : (lead :: type :: n :: payload ++ [hi, lo]).length = (lead :: type :: n :: payload).length + 2 := by simp
  obtain ⟨hhi, hlo⟩ := byteAt_append_two hi lo (lead :: type :: n :: payload)
  have hcovered : ((lead :: type :: n :: payload ++ [hi, lo]).drop 1).take
      ((lead :: type :: n :: payload ++ [hi, lo]).length - 3) = type :: n :: payload := by
    simp
  unfold frameValid
  dsimp only
  rw [beq_iff_eq, hcovered, hlen, Nat.add_sub_cancel, show (lead :: type :: n :: payload).length + 2 - 1 =
    (lead :: type :: n :: payload).length + 1 from rfl, hhi, hlo]

theorem frameOf_frame : frameOf (lead :: type :: n :: payload ++ [hi, lo]) = ⟨type, payload⟩ := by
  simp [frameOf]

end

/-! ## One character (R163) -/

theorem bitTime_eq (divisor : Nat) :
    bitTime divisor = if divisor = 0 then 20 else if divisor = 1 then 40 else 16 * (divisor + 1) := by
  rcases divisor with _ | _ | d <;> simp [bitTime]

theorem bitTime_pos (divisor : Nat) : 0 < bitTime divisor := by
  rw [bitTime_eq]
  split
  · decide
  split
  · decide
  · omega

/-- The level in the middle of bit `k`. -/
def sampleAt (divisor : Nat) (line : Nat → Bool) (k : Nat) : Bool := line (k * bitTime divisor + bitTime divisor / 2)

theorem receiveCharacter_falseStart {divisor : Nat} {line : Nat → Bool} (h : sampleAt divisor line 0 = true) :
    receiveCharacter divisor line = .falseStart := if_pos h

theorem receiveCharacter_fault {divisor : Nat} {line : Nat → Bool} (h0 : sampleAt divisor line 0 = false)
    (h9 : sampleAt divisor line 9 = false) : receiveCharacter divisor line = .framingFault :=
  (if_neg (Bool.eq_false_iff.mp h0)).trans (if_neg (Bool.eq_false_iff.mp h9))

/-- The data bits are those of the byte received. -/
theorem receiveCharacter_character {divisor : Nat} {line : Nat → Bool} {b : Byte} (h0 : sampleAt divisor line 0 = false)
    (h9 : sampleAt divisor line 9 = true) (hbits : ∀ k < 8, sampleAt divisor line (k + 1) = b.getLsbD k) :
    receiveCharacter divisor line = .character b := by
  refine (if_neg (Bool.eq_false_iff.mp h0)).trans ((if_pos h9).trans (congrArg _ ?_))
  rw [← bitsByte_byteBits b]
  refine congrArg bitsByte (List.map_congr_left fun k hk => ?_)
  have hk8 := List.mem_range.mp hk
  rw [← hbits (7 - k) (by omega), show 7 - k + 1 = 8 - k by omega]
  rfl

/-- The middle of bit `k` of a line that carries a character lies in bit `k`. -/
theorem sampleAt_characterBits {divisor : Nat} {line : Nat → Bool} {b : Byte}
    (h : ∀ cycle < 10 * bitTime divisor, line cycle = (characterBits b).getD (cycle / bitTime divisor) true) {k : Nat}
    (hk : k < 10) : sampleAt divisor line k = (characterBits b).getD k true := by
  have hpos := bitTime_pos divisor
  have hhalf : bitTime divisor / 2 < bitTime divisor := Nat.div_lt_self hpos (by decide)
  have hle : (k + 1) * bitTime divisor ≤ 10 * bitTime divisor := Nat.mul_le_mul_right _ hk
  rw [sampleAt, h _ (by rw [Nat.succ_mul] at hle; omega), Nat.mul_comm, Nat.mul_add_div hpos, Nat.div_eq_of_lt hhalf,
    Nat.add_zero]

theorem characterBits_eq (b : Byte) :
    characterBits b =
      [false, b.getLsbD 0, b.getLsbD 1, b.getLsbD 2, b.getLsbD 3, b.getLsbD 4, b.getLsbD 5, b.getLsbD 6, b.getLsbD 7, true] :=
  rfl

theorem receiveCharacter_line {divisor : Nat} {line : Nat → Bool} {b : Byte}
    (h : ∀ cycle < 10 * bitTime divisor, line cycle = (characterBits b).getD (cycle / bitTime divisor) true) :
    receiveCharacter divisor line = .character b := by
  refine receiveCharacter_character ?_ ?_ fun k hk => ?_
  · rw [sampleAt_characterBits h (by decide)]
    rfl
  · rw [sampleAt_characterBits h (by decide)]
    rfl
  · rw [sampleAt_characterBits h (by omega), characterBits_eq]
    interval_cases k <;> rfl

/-! ## A character in READY (R167 to R169) -/

section
variable {l : Lnk} {b : Byte}

theorem Lnk.receive_ignored (h : l.receiver = .hunt) (hb : b ≠ 0xB5) : l.receive b = { l with awaitRise := false } := by
  simp only [Lnk.receive, h]
  rw [if_neg hb, ← h]

theorem Lnk.receive_lead (h : l.receiver = .hunt) (hb : b = 0xB5) :
    l.receive b = { l with awaitRise := false, receiver := .assembling [b], gapTimer := some gapCycles } := by
  simp only [Lnk.receive, h]
  rw [if_pos hb]

variable {bytes : List Byte} (h : l.receiver = .assembling bytes)
include h

/-- A length above 56 ends the frame with CHECK_ERR. -/
theorem Lnk.receive_tooLong (h2 : bytes.length = 2) (hb : 56 < b.toNat) :
    l.receive b = ({ l with awaitRise := false } : Lnk).toHunt.flagCheckErr := by
  simp only [Lnk.receive, h]
  exact if_pos ⟨by simp [h2], hb⟩

theorem Lnk.receive_more (hn : ¬(bytes.length = 2 ∧ 56 < b.toNat)) (hc : frameComplete (bytes ++ [b]) = false) :
    l.receive b =
      { l with awaitRise := false, receiver := .assembling (bytes ++ [b]), gapTimer := some gapCycles } := by
  simp only [Lnk.receive, h]
  exact (if_neg (by simpa using hn)).trans (if_neg (by simp [hc]))

theorem Lnk.receive_last (hn : bytes.length ≠ 2) (hc : frameComplete (bytes ++ [b]) = true) :
    l.receive b = ({ l with awaitRise := false } : Lnk).completeFrame (bytes ++ [b]) := by
  simp only [Lnk.receive, h]
  exact (if_neg (by simp [hn])).trans (if_pos hc)

end

/-- A character in READY acts on LNK alone. -/
theorem exec_characterReceived {s : State} (h : s.lnk.state = .ready) (b : Byte) :
    exec (.characterReceived b) s = .next { s with lnk := s.lnk.receive b } :=
  next_congr (if_pos (by simp [h]))

/-- FRAME_RECEIVED is the receipt of the last byte of a frame. -/
theorem exec_frameReceived {s : State} (h : s.lnk.state = .ready) {b : Byte} {bytes : List Byte}
    (hr : s.lnk.receiver = .assembling bytes) (hc : frameComplete (bytes ++ [b]) = true) :
    exec (.frameReceived b) s = .next { s with lnk := s.lnk.receive b } := by
  simp only [exec, execFrameReceived, h, hr, hc, if_true]
  rfl

/-- Settles O46: the frame's bytes, the ten bits of a character, and each case of a character in READY. -/
theorem characterTaken : Obligations.CharacterTaken := by
  refine ⟨fun lead type n hi lo payload => ⟨frameComplete_frame .., frameValid_frame .., frameOf_frame ..⟩,
    frameComplete_iff, fun divisor line b => ?_, fun s b h => ?_⟩
  · intro bit level
    have hbit : bitTime divisor = bit := bitTime_eq divisor
    have hlevel (k : Nat) : sampleAt divisor line k = level k := by rw [sampleAt, hbit]
    refine ⟨fun h0 => ?_, fun h0 h9 => ?_, fun h0 h9 hbits => ?_, fun hline => ?_⟩
    · exact receiveCharacter_falseStart ((hlevel 0).trans h0)
    · exact receiveCharacter_fault ((hlevel 0).trans h0) ((hlevel 9).trans h9)
    · exact receiveCharacter_character ((hlevel 0).trans h0) ((hlevel 9).trans h9) fun k hk =>
        (hlevel (k + 1)).trans (hbits k hk)
    · exact receiveCharacter_line (hbit.symm ▸ hline)
  · intro l hunting bad answers completes
    have hanswers {x : Lnk} (hx : s.lnk.receive b = x) : answers x := hx ▸ exec_characterReceived h b
    refine ⟨fun hr hb => hanswers (Lnk.receive_ignored hr hb), fun hr hb => hanswers (Lnk.receive_lead hr hb), fun bytes hr =>
      ⟨fun h2 hb => hanswers (Lnk.receive_tooLong hr h2 hb), fun hn hc => hanswers (Lnk.receive_more hr hn hc), fun hn hc => ?_⟩⟩
    have hlast := Lnk.receive_last hr hn hc
    have hcompletes {x : Lnk} (hx : s.lnk.receive b = x) : completes x :=
      ⟨hanswers hx, hx ▸ exec_frameReceived h hr hc⟩
    refine ⟨fun hv => hcompletes (hlast.trans (if_neg (by simp [hv]))),
      fun hv hroom => hcompletes (hlast.trans ((if_pos hv).trans (if_pos hroom))),
      fun hv hfull => hcompletes (hlast.trans ((if_pos hv).trans (if_neg (not_lt.mpr hfull))))⟩

/-! ## Faults of the receiver (R165, R168) -/

theorem Lnk.isAssembling_iff (l : Lnk) : l.isAssembling = true ↔ ∃ b, l.receiver = .assembling b := by
  unfold Lnk.isAssembling
  cases l.receiver <;> simp

theorem Lnk.discardPartial_assembling {l : Lnk} (h : ∃ b, l.receiver = .assembling b) :
    l.discardPartial = l.toHunt.flagCheckErr := if_pos (l.isAssembling_iff.mpr h)

theorem Lnk.discardPartial_hunt {l : Lnk} (h : l.receiver = .hunt) : l.discardPartial = l := by
  refine if_neg ?_
  simp [Lnk.isAssembling, h]

/-- Settles O47: each fault, with the bit time of the divisor. -/
theorem receiverFaults : Obligations.ReceiverFaults := by
  intro s low bit hunting bad
  have hbit : bitTime s.lnk.divisor = bit := bitTime_eq s.lnk.divisor
  refine ⟨fun hg hr => ?_, fun hs hl hr => ?_, fun hs hl hr => ?_, fun hs hl hrate => ?_, fun hs hl hrate => ?_⟩
  · refine next_congr ((if_pos hg).trans ?_)
    rw [Lnk.discardPartial_assembling hr]
    rfl
  · refine next_congr ((if_pos (by simp [hs, hbit, hl])).trans ?_)
    rw [Lnk.discardPartial_assembling hr]
    rfl
  · refine next_congr ((if_pos (by simp [hs, hbit, hl])).trans ?_)
    rw [Lnk.discardPartial_hunt hr]
    rfl
  · exact next_congr ((if_pos (by simp [hs, hbit, hl])).trans (if_neg hrate))
  · exact next_congr ((if_pos (by simp [hs, hbit, hl])).trans (if_pos hrate))

end Sys2Proof.Machine
end

section
/-!
PROOFS. Rate detection (R164), staging and the bytes on the line (R162, R163, R166, R171, R172, R182), and a frame received byte by
byte (R166 to R169).
-/
namespace Sys2Proof.Machine

/-! ## Staging (R171, R172) -/

/-- A discard mark that a frame carries and that no new discard has renewed is cleared (R172). -/
theorem cleared_eq (flag carried renewed : Bool) :
    (flag && !(carried && !renewed)) = if carried = true ∧ renewed = false then false else flag := by
  cases flag <;> cases carried <;> cases renewed <;> rfl

/-- The waiting frame follows where none is transmitted (R171). -/
theorem Lnk.promote_waiting {l : Lnk} {w : Staged} (ht : l.transmitting = none) (hw : l.waiting = some w) :
    l.promote =
      { l with
        transmitting := some w, txDivisor := l.divisor, waiting := none
        dropped := if w.flags.dropped = true ∧ w.newDropped = false then false else l.dropped
        checkErr := if w.flags.checkErr = true ∧ w.newCheckErr = false then false else l.checkErr } := by
  simp only [Lnk.promote, ht, hw, Lnk.beginTransmit, cleared_eq]

theorem Lnk.promote_busy {l : Lnk} (h : l.transmitting ≠ none ∨ l.waiting = none) : l.promote = l := by
  unfold Lnk.promote
  split
  next ht hw =>
    rcases h with h | h
    · exact absurd ht h
    · rw [hw] at h
      cases h
  · rfl

/-- A frame staged with the flags of this moment: it waits behind another, or its transmission begins and clears them. -/
theorem Lnk.stage_eq (l : Lnk) (f : Staged) (hd : f.flags.dropped = l.dropped) (hc : f.flags.checkErr = l.checkErr)
    (hnd : f.newDropped = false) (hnc : f.newCheckErr = false) (hw : l.waiting = none) :
    l.stage f =
      if l.transmitting.isSome then { l with waiting := some f }
      else { l with transmitting := some f, txDivisor := l.divisor, dropped := false, checkErr := false } := by
  have hclear (flag : Bool) : (if flag = true then false else flag) = false := by cases flag <;> rfl
  by_cases ht : l.transmitting = none
  · rw [if_neg (by simp [ht])]
    refine (Lnk.promote_waiting (l := { l with waiting := some f }) ht rfl).trans ?_
    simp only [hd, hc, hnd, hnc, and_true, hclear, hw]
  · rw [if_pos (Option.isSome_iff_ne_none.mpr ht)]
    exact Lnk.promote_busy (.inl ht)

/-- The promotion in one equation. -/
theorem Lnk.promote_eq (l : Lnk) :
    l.promote =
      match l.transmitting, l.waiting with
      | none, some w =>
        { l with
          transmitting := some w, txDivisor := l.divisor, waiting := none
          dropped := if w.flags.dropped = true ∧ w.newDropped = false then false else l.dropped
          checkErr := if w.flags.checkErr = true ∧ w.newCheckErr = false then false else l.checkErr }
      | _, _ => l := by
  split
  next w ht hw => exact Lnk.promote_waiting ht hw
  next hnot =>
    refine Lnk.promote_busy ?_
    by_contra hn
    obtain ⟨ht, hw⟩ := not_or.mp hn
    obtain ⟨w, hw⟩ := Option.ne_none_iff_exists'.mp hw
    exact hnot w (not_not.mp ht) hw

/-! ## Rate detection (R164) -/

section
variable {s : State} (h : s.lnk.state = .rateUnknown)
include h

theorem exec_breakWaitEnd (low : Nat) :
    exec (.breakWaitEnd low) s =
      .next (if 36864 ≤ low then { s with lnk := { s.lnk with phase := .waitStart, counting := false } } else s) := by
  refine next_congr (if_congr ?_ rfl rfl)
  simp only [h, beq_self_eq_true, Bool.true_and]
  exact decide_eq_true_iff

theorem exec_measureStart (hp : s.lnk.phase = .waitStart) :
    exec .measureStart s = .next { s with lnk := { s.lnk with phase := .measure, counting := false } } :=
  next_congr (if_pos (by simp [h, hp]))

theorem exec_measureFirstRisingEdge (hp : s.lnk.phase = .measure) (hc : s.lnk.counting = false) :
    exec .measureFirstRisingEdge s =
      .next { s with lnk := { s.lnk with counting := true, measCount := 0, overflow := false } } :=
  next_congr (if_pos (by simp [h, hp, hc]))

variable (hp : s.lnk.phase = .measure) (hc : s.lnk.counting = true)
include hp hc

theorem exec_measurementCountOverflow :
    exec .measurementCountOverflow s = .next { s with lnk := { s.lnk with measCount := 0, overflow := true } } :=
  next_congr (if_pos (by simp [h, hp, hc]))

/-- A measurement out of the range, or one that overflowed, is rejected. -/
theorem exec_measurementEnd_rejected {n : Nat} (hn : s.lnk.overflow = true ∨ n < 64 ∨ 32831 < n) :
    exec (.measurementEnd n) s =
      .next { s with lnk := { s.lnk with phase := .waitBreak, counting := false, measCount := n } } := by
  have hrejected : ¬ measureAccepted s.lnk.overflow n = true := by
    simp only [measureAccepted, Bool.and_eq_true, Bool.not_eq_true', decide_eq_true_eq]
    rintro ⟨⟨ho, hlow⟩, hhigh⟩
    rcases hn with hn | hn | hn
    · simp [ho] at hn
    · omega
    · omega
  exact next_congr ((if_pos (by simp [h, hp, hc])).trans (if_neg hrejected))

/-- A measurement in the range sets the divisor, and transmission resumes (R171). -/
theorem exec_measurementEnd_accepted {n : Nat} (ho : s.lnk.overflow = false) (hlow : 64 ≤ n) (hhigh : n ≤ 32831) :
    exec (.measurementEnd n) s =
      .next (State.raising
        { s with
          lnk :=
            ({ s.lnk with
              state := .ready, divisor := (n + 64) / 128 - 1, receiver := .hunt, counting := false, measCount := n }
              : Lnk).promote }
        .lnk [(.linkRateSet, (n + 64) / 128 - 1, n)]) :=
  next_congr ((if_pos (by simp [h, hp, hc])).trans (if_pos (by simp [measureAccepted, ho, hlow, hhigh])))

end

/-- Settles O48: the steps of a detection, and what waits when it ends. -/
theorem rateDetected : Obligations.RateDetected := by
  intro s low n h l
  refine ⟨fun hl => ?_, fun hl => ?_, exec_measureStart h, exec_measureFirstRisingEdge h, fun hp hc =>
    ⟨exec_measurementCountOverflow h hp hc, exec_measurementEnd_rejected h hp hc, fun ho hlow hhigh => ?_⟩⟩
  · rw [exec_breakWaitEnd h, if_pos hl]
  · rw [exec_breakWaitEnd h, if_neg (not_le.mpr hl)]
  · refine ⟨by omega, (exec_measurementEnd_accepted h hp hc ho hlow hhigh).trans ?_⟩
    exact congrArg (fun x => Host.Outcome.next
      (State.raising { s with lnk := x } .lnk [(.linkRateSet, (n + 64) / 128 - 1, n)])) (Lnk.promote_eq _)

/-! ## The bytes on the line (R162, R163, R166) -/

theorem crc16_append (bytes : List Byte) (b : Byte) : crc16 (bytes ++ [b]) = crcByte (crc16 bytes) b := by
  simp [crc16, List.foldl_append]

theorem LinkFlags.code_eq (f : LinkFlags) :
    f.code = (if f.dropped then 1 else 0) + (if f.checkErr then 2 else 0) + (if f.intakeNearFull then 4 else 0)
      + if f.noticePending then 8 else 0 := by
  unfold LinkFlags.code bit
  cases f.dropped <;> cases f.checkErr <;> cases f.intakeNearFull <;> cases f.noticePending <;> rfl

/-- Without a frame LTX is high (R162). -/
theorem Lnk.ltx_idle {l : Lnk} (h : l.transmitting = none) (cycle : Nat) : l.ltx = .high ∧ l.ltxLevel cycle = true := by
  simp [Lnk.ltx, Lnk.ltxLevel, Lnk.ltxBits, h]

section
variable {l : Lnk} {f : Staged} (h : l.transmitting = some f)
include h

theorem Lnk.ltxBits_eq : l.ltxBits = (f.bytes.map characterBits).flatten := by
  simp only [Lnk.ltxBits, h]
  rfl

/-- Each character takes ten bit times, and its bits follow one another (R163). -/
theorem Lnk.ltxLevel_character {cycle : Nat} {b : Byte}
    (hb : f.bytes[cycle / (10 * bitTime l.txDivisor)]? = some b) :
    l.ltxLevel cycle = (characterBits b).getD (cycle / bitTime l.txDivisor % 10) true := by
  have hplace : cycle / (10 * bitTime l.txDivisor) * 10 + cycle / bitTime l.txDivisor % 10 = cycle / bitTime l.txDivisor := by
    rw [Nat.mul_comm 10, ← Nat.div_div_eq_div_mul]
    exact Nat.div_add_mod' _ 10
  have hblock := getD_flatten_blocks (d := true) (len := 10) (ls := f.bytes.map characterBits) (l := characterBits b)
    (fun x hx => by obtain ⟨y, -, rfl⟩ := List.mem_map.mp hx; rfl) (by rw [List.getElem?_map, hb]; rfl)
    (Nat.mod_lt (cycle / bitTime l.txDivisor) (by decide))
  rw [hplace] at hblock
  rw [Lnk.ltxLevel, Lnk.ltxBits_eq h]
  exact hblock

/-- After its last character LTX is high. -/
theorem Lnk.ltxLevel_after {cycle : Nat} (hc : 10 * bitTime l.txDivisor * f.bytes.length ≤ cycle) :
    l.ltxLevel cycle = true := by
  have hlen : ((f.bytes.map characterBits).flatten).length = 10 * f.bytes.length := by
    induction f.bytes with
    | nil => rfl
    | cons b bs ih =>
      rw [List.map_cons, List.flatten_cons, List.length_append, ih, List.length_cons]
      simp only [characterBits_eq, List.length_cons, List.length_nil]
      omega
  rw [Lnk.ltxLevel, Lnk.ltxBits_eq h]
  refine List.getD_eq_default _ _ ?_
  rw [hlen, Nat.le_div_iff_mul_le (bitTime_pos _)]
  calc
    10 * f.bytes.length * bitTime l.txDivisor = 10 * bitTime l.txDivisor * f.bytes.length := by ring
    _ ≤ cycle := hc

end

/-- The answer that holds the link back for a RESTART (R171). -/
theorem Answer.isRestartDone_eq (a : Answer) :
    a.isRestartDone =
      match a with
      | .reply echo .done _ _ => decide (echo = 0x22)
      | _ => false := by
  cases a with
  | reply echo status op detail =>
    cases status with
    | done => exact Bool.and_true _
    | refusedState | badValue | badLength | unknownType | badCal => exact Bool.and_false _
  | dispatch d => rfl
  | report echo id content => rfl

theorem not_isEmpty_eq {α : Type} [DecidableEq α] (l : List α) : (!l.isEmpty) = decide (l ≠ []) := by
  cases l <;> simp

/-- The arbiter may stage (R171). -/
theorem Lnk.mayStage_of {l : Lnk} (hs : l.state = .ready) (hh : l.restartHold = false) (hw : l.waiting = none) :
    l.mayStage = true := by
  simp [Lnk.mayStage, hs, hh, hw]

/-- Settles O49: the frame's bytes, LTX, and the two stagings. -/
theorem framesStaged : Obligations.FramesStaged := by
  refine ⟨fun type payload => rfl, ⟨rfl, crc16_append⟩, LinkFlags.code_eq, characterBits_eq, fun l cycle => ?_,
    fun s a rest hr hs hh hw => ?_, fun s hr hs hh hw hdue hq => ?_⟩
  · intro bit
    have hbit : bitTime l.txDivisor = bit := bitTime_eq l.txDivisor
    refine ⟨fun h => Lnk.ltx_idle h cycle, fun f h => ⟨by simp [Lnk.ltx, h], fun b hb => ?_, fun hc => ?_⟩⟩
    · rw [← hbit] at hb ⊢
      exact Lnk.ltxLevel_character h hb
    · exact Lnk.ltxLevel_after h (hbit ▸ hc)
  · intro flags hold f l
    have hdone : a.isRestartDone = hold := Answer.isRestartDone_eq a
    have hstage := Lnk.stage_eq l f rfl rfl rfl rfl hw
    have hframe : stagedFrame a.type a.body (linkFlagsNow s (!s.ntu.queue.isEmpty)) a.isRestartDone = f := by
      rw [hdone, not_isEmpty_eq]
      rfl
    simp only [exec, execStageAnswer, hr, Lnk.mayStage_of hs hh hw, if_true]
    rw [hframe, hdone]
    refine next_congr ((congrArg s.setLnk hstage).trans ?_)
    by_cases ht : s.lnk.transmitting.isSome = true
    · rw [if_pos ht, if_pos ht]
      rfl
    · rw [if_neg ht, if_neg ht]
      rfl
  · intro left flags records payload f ntu
    have hstage := Lnk.stage_eq s.lnk f rfl rfl rfl rfl hw
    have hntu : s.ntu.noticeTaken = ntu := by
      simp only [Ntu.noticeTaken, hdue, Bool.true_and, not_isEmpty_eq]
      rfl
    have hframe : stagedFrame 0xC0 (noticeBody s.ntu.lost s.ntu.noticeRecords)
        (linkFlagsNow s (!s.ntu.noticeTaken.queue.isEmpty)) false = f := by
      rw [not_isEmpty_eq]
      rfl
    have hcond : (s.lnk.mayStage && s.lnk.replies.isEmpty && s.ntu.due && !s.ntu.queue.isEmpty) = true := by
      simp [Lnk.mayStage_of hs hh hw, hr, hdue, hq]
    refine next_congr ((if_pos hcond).trans ?_)
    dsimp only
    rw [hframe, hntu]
    refine (congrArg (s.setNtu ntu).setLnk hstage).trans ?_
    by_cases ht : s.lnk.transmitting.isSome = true
    · rw [if_pos ht, if_pos ht]
      rfl
    · rw [if_neg ht, if_neg ht]
      rfl

/-! ## A frame received byte by byte (R166 to R169) -/

theorem Lnk.receive_state (b : Byte) (l : Lnk) : (l.receive b).state = l.state := by
  unfold Lnk.receive Lnk.completeFrame Lnk.offer Lnk.flagCheckErr Lnk.flagDropped Lnk.toHunt
  dsimp only
  (repeat' split) <;> rfl

/-- Characters received one by one in READY act on LNK alone. -/
theorem foldl_characterReceived (line : List Byte) {s : State} (h : s.lnk.state = .ready) :
    line.foldl
      (fun o b => match o with
        | .next t => exec (.characterReceived b) t
        | stopped => stopped)
      (.next s : Out) = .next { s with lnk := line.foldl (fun l b => l.receive b) s.lnk } := by
  induction line generalizing s with
  | nil => rfl
  | cons b rest ih =>
    simp only [List.foldl_cons, exec_characterReceived h]
    exact ih ((Lnk.receive_state b s.lnk).trans h)

/-- The bytes received before a frame's last leave it incomplete. -/
theorem frameComplete_prefix {lead type n hi lo : Byte} {payload p : List Byte} (hn : n.toNat = payload.length)
    (hp : p <+: lead :: type :: n :: payload ++ [hi, lo]) (hlt : p.length < payload.length + 5) :
    frameComplete p = false := by
  rw [Bool.eq_false_iff]
  intro hc
  obtain ⟨m, hm, hlen⟩ := (frameComplete_iff p).mp hc
  obtain ⟨h2, -⟩ := List.getElem?_eq_some_iff.mp hm
  obtain ⟨t, ht⟩ := hp
  have hnth : (p ++ t)[2]? = some m := by rw [List.getElem?_append_left h2, hm]
  rw [ht] at hnth
  have hmn : n = m := by simpa using hnth
  rw [← hmn, hn] at hlen
  omega

/-- The rest of a frame, received from a prefix of it on: the frame is complete with its last byte, and with no other. -/
theorem foldl_receive_frame {lead type n hi lo : Byte} {payload : List Byte} (hn : n.toNat = payload.length)
    (hmax : payload.length ≤ 56) {l : Lnk} (hawait : l.awaitRise = false) (rest : List Byte) {p : List Byte}
    (hp : p ++ rest = lead :: type :: n :: payload ++ [hi, lo]) (hpne : p ≠ []) (hrest : rest ≠ []) :
    rest.foldl (fun l b => l.receive b) { l with receiver := .assembling p, gapTimer := some gapCycles } =
      l.completeFrame (lead :: type :: n :: payload ++ [hi, lo]) := by
  have hl : ({ l with awaitRise := false } : Lnk) = l := by rw [← hawait]
  induction rest generalizing p with
  | nil => exact absurd rfl hrest
  | cons b rest ih =>
    have hsplit : p ++ [b] ++ rest = lead :: type :: n :: payload ++ [hi, lo] := by simpa using hp
    have hlen : p.length + (rest.length + 1) = payload.length + 5 := by simpa using congrArg List.length hp
    rw [List.foldl_cons]
    by_cases hnil : rest = []
    · subst hnil
      rw [List.append_nil] at hsplit
      rw [Lnk.receive_last rfl (by simp at hlen; omega) (by rw [hsplit, frameComplete_frame, hn]), hsplit]
      have hdone : ({ l with awaitRise := false } : Lnk).completeFrame (lead :: type :: n :: payload ++ [hi, lo]) =
          l.completeFrame (lead :: type :: n :: payload ++ [hi, lo]) := by rw [hl]
      exact hdone
    · have hpos := List.length_pos_iff.mpr hnil
      have hshort : ¬(p.length = 2 ∧ 56 < b.toNat) := by
        rintro ⟨h2, hb⟩
        have hthird : (p ++ b :: rest)[2]? = some b := by rw [List.getElem?_append_right (by omega), h2]; rfl
        rw [hp] at hthird
        have hbn : n = b := by simpa using hthird
        rw [← hbn, hn] at hb
        omega
      rw [Lnk.receive_more rfl hshort (frameComplete_prefix hn ⟨rest, hsplit⟩ (by simp; omega))]
      refine Eq.trans ?_ (ih hsplit (by simp) hnil)
      have hnext := congrArg (fun l : Lnk => rest.foldl (fun l b => l.receive b)
        { l with receiver := .assembling (p ++ [b]), gapTimer := some gapCycles }) hl
      exact hnext

/-- Two bytes carry the CRC. -/
theorem crc_bytes (c : BitVec 16) :
    c.toNat = (BitVec.ofNat 8 (c.toNat / 256)).toNat * 256 + (BitVec.ofNat 8 c.toNat).toNat := by
  have hlt := c.isLt
  simp only [BitVec.toNat_ofNat]
  omega

/-- Settles O45: the lead byte begins the frame, and its last byte completes it with the right CRC. -/
theorem frameRoundTrip : Obligations.FrameRoundTrip := by
  intro type payload s hmax hs hr covered crc line received idle
  have hn : (BitVec.ofNat 8 payload.length).toNat = payload.length := by
    rw [BitVec.toNat_ofNat]
    omega
  have hline : line = 0xB5 :: type :: BitVec.ofNat 8 payload.length :: payload
      ++ [BitVec.ofNat 8 (crc / 256), BitVec.ofNat 8 crc] := rfl
  have hvalid : frameValid line = true := (frameValid_frame _ _ _ _ _ _).mpr (crc_bytes (crc16 covered))
  have hidle : idle.toHunt = idle := by
    have hhunt : idle.receiver = .hunt := hr
    rw [Lnk.toHunt, ← hhunt]
  have hframe : line.foldl (fun l b => l.receive b) s.lnk = idle.completeFrame line := by
    rw [hline, List.cons_append, List.foldl_cons, Lnk.receive_lead hr rfl]
    exact foldl_receive_frame hn hmax (l := idle) rfl _ (p := [0xB5]) rfl (by simp) (by simp)
  refine (foldl_characterReceived line hs).trans (next_congr ?_)
  have hof : frameOf line = ⟨type, payload⟩ := frameOf_frame ..
  rw [hframe, Lnk.completeFrame, if_pos hvalid, hidle, hof]
  rfl

end Sys2Proof.Machine
end

section
/-!
PROOFS. The Link Controller keeps its invariant (R163 to R171).
-/
namespace Sys2Proof.Machine

/-! ## The commands that leave LNK alone -/

/-- The commands of the link itself, and the resets. -/
def changesLnk : Instr → Bool
  | .powerOn _ | .resetn _ | .frameReceived _ | .gapTimerExpiry | .framingFault _ | .lineBreak _ | .breakWaitEnd _
  | .measureStart | .measurementEnd _ | .stageAnswer | .stageNotice | .transmitEnd | .characterReceived _
  | .measureFirstRisingEdge | .measurementCountOverflow => true
  | _ => false

/-- Every other command but a request leaves the Link Controller as it was. -/
theorem lnk_kept (i : Instr) (hi : changesLnk i = false) (hr : isRequest i = false) (s t : State)
    (h : exec i s = .next t) : t.lnk = s.lnk := by
  cases i <;> first | (cases hi; done) | (cases hr; done) | skip
  all_goals
    simp only [exec, execImageReadEnd, execHeatInit, dspTakesLoadEnd, execWruLoadingGrade, wruTakesLoadEnd,
      execDemandTimerExpiry, execHeatUpdate, heatTakesNext, execRteResult, rteTakesNext, execEngResultEvaluation,
      engTakesNext, execCrankTimerExpiry, execPauseTimerExpiry, execWarmTimerExpiry, execStopHoldExpiry,
      execCooldownTimerExpiry, execWruResult, wruTakesNext, execEngineIncrement, wruTakesNextIncrement, execKmDistance,
      wruTakesNextDistance, execLampTimerExpiry, execFillSuccess, execCheckFailure, execEventRaised,
      execCoalescingTimerExpiry, stateTimerExpiry, execCrankTimerExpiry.act, execPauseTimerExpiry.act,
      execWarmTimerExpiry.act, Host.Outcome.next.injEq] at h
    subst h
    (repeat' split) <;> simp [foldl_raise, State.raising]

/-! ## The receiver (R164 to R169) -/

/-- What the receiver keeps: its frame, its timer, and HUNT in RATE_UNKNOWN. -/
structure Lnk.Receiving (l : Lnk) : Prop where
  unknown : l.state = .rateUnknown → l.receiver = .hunt
  gap : l.gapTimer.isSome = l.isAssembling
  frame : ∀ b, l.receiver = .assembling b →
    b.head? = some 0xB5 ∧ frameComplete b = false ∧ b.length ≤ 60 ∧ ∀ n ∈ frameLength b, n ≤ 56

/-- What the queues and the transmitter keep. -/
structure Lnk.Queued (l : Lnk) : Prop where
  intake : l.intake.length ≤ 4
  replies : l.replies.length ≤ 4
  payloads : ∀ f ∈ l.intake, f.payload.length ≤ 56
  divisor : l.divisor ≤ 255 ∧ l.txDivisor ≤ 255
  staging : l.state = .ready → l.waiting.isSome = true → l.transmitting.isSome = true

theorem Lnk.inv_iff {l : Lnk} : l.Inv ↔ l.Receiving ∧ l.Queued :=
  ⟨fun h => ⟨⟨h.unknown, h.gap, h.frame⟩, ⟨h.intake, h.replies, h.payloads, h.divisor, h.staging⟩⟩,
    fun ⟨hr, hq⟩ => ⟨hq.intake, hq.replies, hq.payloads, hq.divisor, hr.unknown, hr.gap, hr.frame, hq.staging⟩⟩

theorem Lnk.Inv.receiving {l : Lnk} (h : l.Inv) : l.Receiving := (Lnk.inv_iff.mp h).1

theorem Lnk.Inv.queued {l : Lnk} (h : l.Inv) : l.Queued := (Lnk.inv_iff.mp h).2

/-- HUNT with the timer stopped keeps what the receiver keeps. -/
theorem Lnk.Receiving.of_hunt {l : Lnk} (hr : l.receiver = .hunt) (hg : l.gapTimer = none) : l.Receiving :=
  ⟨fun _ => hr, by simp [Lnk.isAssembling, hr, hg], fun b hb => by simp [hr] at hb⟩

/-- Fields that the receiver does not read. -/
theorem Lnk.Receiving.of_eq {l m : Lnk} (h : l.Receiving) (hs : m.state = l.state) (hr : m.receiver = l.receiver)
    (hg : m.gapTimer = l.gapTimer) : m.Receiving := by
  refine ⟨?_, ?_, ?_⟩
  · rw [hs, hr]
    exact h.unknown
  · have hm : m.isAssembling = l.isAssembling := by simp only [Lnk.isAssembling, hr]
    rw [hg, hm]
    exact h.gap
  · rw [hr]
    exact h.frame

/-- A frame being assembled in READY, which the timer guards. -/
theorem Lnk.Receiving.of_assembling {l : Lnk} {b : List Byte} (hs : l.state = .ready) (hr : l.receiver = .assembling b)
    (hg : l.gapTimer.isSome = true)
    (hb : b.head? = some 0xB5 ∧ frameComplete b = false ∧ b.length ≤ 60 ∧ ∀ n ∈ frameLength b, n ≤ 56) :
    l.Receiving := by
  refine ⟨fun hu => ?_, by simp [Lnk.isAssembling, hr, hg], fun c hc => ?_⟩
  · rw [hs] at hu
    cases hu
  · rw [hr] at hc
    cases hc
    exact hb

/-- Queues and transmitter, where a discard has only set its marks. -/
theorem Lnk.Queued.of_eq {l m : Lnk} (h : l.Queued) (hi : m.intake = l.intake) (hr : m.replies = l.replies)
    (hd : m.divisor = l.divisor) (ht : m.txDivisor = l.txDivisor) (hs : m.state = .ready → l.state = .ready)
    (hw : m.waiting.isSome = l.waiting.isSome) (hx : m.transmitting = l.transmitting) : m.Queued := by
  refine ⟨?_, ?_, ?_, ?_, fun hm hwait => ?_⟩
  · rw [hi]
    exact h.intake
  · rw [hr]
    exact h.replies
  · rw [hi]
    exact h.payloads
  · rw [hd, ht]
    exact h.divisor
  · rw [hx]
    exact h.staging (hs hm) (hw ▸ hwait)

theorem Lnk.Queued.toHunt {l : Lnk} (h : l.Queued) : l.toHunt.Queued := h.of_eq rfl rfl rfl rfl id rfl rfl

theorem Lnk.Queued.flagCheckErr {l : Lnk} (h : l.Queued) : l.flagCheckErr.Queued :=
  h.of_eq rfl rfl rfl rfl id (by simp [Lnk.flagCheckErr]) rfl

theorem Lnk.Queued.flagDropped {l : Lnk} (h : l.Queued) : l.flagDropped.Queued :=
  h.of_eq rfl rfl rfl rfl id (by simp [Lnk.flagDropped]) rfl

/-- A discarded frame leaves the receiver in HUNT. -/
theorem Lnk.Queued.discard_inv {l : Lnk} (h : l.Queued) : l.toHunt.flagCheckErr.Inv :=
  Lnk.inv_iff.mpr ⟨.of_hunt rfl rfl, h.toHunt.flagCheckErr⟩

theorem Lnk.offer_inv {l : Lnk} (hr : l.receiver = .hunt) (hg : l.gapTimer = none) (h : l.Queued) {f : Frame}
    (hf : f.payload.length ≤ 56) : (l.offer f).Inv := by
  unfold Lnk.offer
  split
  next hroom =>
    refine Lnk.inv_iff.mpr ⟨.of_hunt hr hg, ⟨?_, h.replies, ?_, h.divisor, h.staging⟩⟩
    · rw [List.length_append]
      exact hroom
    · intro g hmem
      rcases List.mem_append.mp hmem with hg | hg
      · exact h.payloads g hg
      · rw [List.mem_singleton.mp hg]
        exact hf
  · exact Lnk.inv_iff.mpr ⟨.of_hunt hr hg, h.flagDropped⟩

theorem Lnk.completeFrame_inv {l : Lnk} (h : l.Queued) {bytes : List Byte} (hb : bytes.length ≤ 61) :
    (l.completeFrame bytes).Inv := by
  unfold Lnk.completeFrame
  split
  · refine Lnk.offer_inv rfl rfl h.toHunt ?_
    simp only [frameOf, List.length_take]
    omega
  · exact h.discard_inv

/-- The length byte, once there, does not change. -/
theorem frameLength_append {bytes : List Byte} (b : Byte) (h : 3 ≤ bytes.length) :
    frameLength (bytes ++ [b]) = frameLength bytes := by
  unfold frameLength
  rw [List.getElem?_append_left h]

/-- One byte more, and still incomplete: the frame keeps what it keeps. -/
theorem frame_append {bytes : List Byte} {b : Byte}
    (h : bytes.head? = some 0xB5 ∧ frameComplete bytes = false ∧ bytes.length ≤ 60 ∧ ∀ n ∈ frameLength bytes, n ≤ 56)
    (hlong : ¬((bytes ++ [b]).length = 3 ∧ 56 < b.toNat)) (hc : frameComplete (bytes ++ [b]) = false) :
    (bytes ++ [b]).head? = some 0xB5 ∧ frameComplete (bytes ++ [b]) = false ∧ (bytes ++ [b]).length ≤ 60
      ∧ ∀ n ∈ frameLength (bytes ++ [b]), n ≤ 56 := by
  obtain ⟨hhead, -, hlen, hmax⟩ := h
  have hbound : ∀ n ∈ frameLength (bytes ++ [b]), n ≤ 56 := by
    intro n hn
    rcases Nat.lt_trichotomy bytes.length 2 with hlt | heq | hgt
    · simp [frameLength, List.getElem?_eq_none (show (bytes ++ [b]).length ≤ 2 by simp; omega)] at hn
    · have hbn : b.toNat = n := by
        simpa [frameLength, List.getElem?_append_right (show bytes.length ≤ 2 by omega), heq] using hn
      by_contra hgt
      exact hlong ⟨by simp [heq], by omega⟩
    · exact hmax n (frameLength_append b hgt ▸ hn)
  refine ⟨?_, hc, ?_, hbound⟩
  · cases bytes with
    | nil => cases hhead
    | cons x xs => exact hhead
  · by_contra hgt
    have hfull : (bytes ++ [b]).length = 61 := by simp at hgt ⊢; omega
    obtain ⟨n, hn⟩ : ∃ n, (bytes ++ [b])[2]? = some n := ⟨_, List.getElem?_eq_getElem (by omega)⟩
    have hcomplete : frameComplete (bytes ++ [b]) = true := by
      have hle := hbound n.toNat (by simp [frameLength, hn])
      exact (frameComplete_iff _).mpr ⟨n, hn, by omega⟩
    rw [hc] at hcomplete
    cases hcomplete

/-- A character in READY keeps the invariant (R167 to R169). -/
theorem Lnk.receive_inv {l : Lnk} (h : l.Inv) (hs : l.state = .ready) (b : Byte) : (l.receive b).Inv := by
  have hq : ({ l with awaitRise := false } : Lnk).Queued := h.queued.of_eq rfl rfl rfl rfl id rfl rfl
  cases hr : l.receiver with
  | hunt =>
    by_cases hb : b = 0xB5
    · rw [Lnk.receive_lead hr hb]
      refine Lnk.inv_iff.mpr ⟨.of_assembling hs rfl rfl ?_, hq.of_eq rfl rfl rfl rfl id rfl rfl⟩
      exact ⟨by rw [hb]; rfl, rfl, by simp, by simp [frameLength]⟩
    · rw [Lnk.receive_ignored hr hb]
      exact Lnk.inv_iff.mpr ⟨h.receiving.of_eq rfl rfl rfl, hq⟩
  | assembling bytes =>
    have hframe := h.frame bytes hr
    by_cases hlong : bytes.length = 2 ∧ 56 < b.toNat
    · rw [Lnk.receive_tooLong hr hlong.1 hlong.2]
      exact hq.discard_inv
    cases hc : frameComplete (bytes ++ [b]) with
    | false =>
      rw [Lnk.receive_more hr hlong hc]
      exact Lnk.inv_iff.mpr ⟨.of_assembling hs rfl rfl (frame_append hframe (by simpa using hlong) hc),
        hq.of_eq rfl rfl rfl rfl id rfl rfl⟩
    | true =>
      have hne : bytes.length ≠ 2 := by
        intro h2
        obtain ⟨n, hn, hlen⟩ := (frameComplete_iff _).mp hc
        simp [h2] at hlen
        omega
      rw [Lnk.receive_last hr hne hc]
      exact Lnk.completeFrame_inv hq (by simp; omega)

/-! ## The transmitter (R171) -/

/-- Promotion leaves the receiver and the queues alone, and in READY no frame waits behind none. -/
theorem Lnk.promote_inv {l : Lnk} (hr : l.Receiving)
    (hi : l.intake.length ≤ 4) (hq : l.replies.length ≤ 4) (hp : ∀ f ∈ l.intake, f.payload.length ≤ 56)
    (hd : l.divisor ≤ 255 ∧ l.txDivisor ≤ 255) : l.promote.Inv := by
  rw [Lnk.promote_eq]
  split
  next w ht hw =>
    exact Lnk.inv_iff.mpr ⟨hr.of_eq rfl rfl rfl, ⟨hi, hq, hp, ⟨hd.1, hd.1⟩, fun _ hwait => by cases hwait⟩⟩
  next hnot =>
    refine Lnk.inv_iff.mpr ⟨hr, ⟨hi, hq, hp, hd, fun _ hwait => ?_⟩⟩
    obtain ⟨w, hw⟩ := Option.isSome_iff_exists.mp hwait
    exact Option.isSome_iff_ne_none.mpr fun ht => hnot w ht hw

theorem Lnk.stage_inv {l : Lnk} (h : l.Inv) (f : Staged) (replies : List Answer) (hold : Bool) (hr : replies.length ≤ 4) :
    (({ l with replies, restartHold := hold } : Lnk).stage f).Inv :=
  Lnk.promote_inv (h.receiving.of_eq rfl rfl rfl) h.intake hr h.payloads h.divisor

theorem Lnk.reset_inv (straps : Straps) : (Lnk.reset straps).Inv := by
  have hd : Lnk.resetDivisor straps.rate ≤ 255 := by
    unfold Lnk.resetDivisor
    split
    · decide
    split <;> decide
  exact Lnk.inv_iff.mpr ⟨.of_hunt rfl rfl, ⟨Nat.zero_le _, Nat.zero_le _, fun f hf => (List.not_mem_nil hf).elim, ⟨hd, hd⟩,
    fun _ hw => by cases hw⟩⟩

/-- At a RESTART the queues are emptied, and the receiver goes on (Table 8-3). -/
theorem Lnk.Inv.restarted {l : Lnk} (h : l.Inv) : l.restarted.Inv :=
  Lnk.inv_iff.mpr ⟨h.receiving.of_eq rfl rfl rfl, ⟨Nat.zero_le _, Nat.zero_le _, fun f hf => (List.not_mem_nil hf).elim,
    h.divisor, fun _ hw => by cases hw⟩⟩

theorem enterLoading_lnk (s : State) : (enterLoading s).lnk = s.lnk := by simp

theorem countHotStop_lnk (s : State) : (countHotStop s).lnk = s.lnk := by
  unfold countHotStop
  split
  · simp
  · rfl

/-- A function that leaves LNK alone does so repeated. -/
theorem iterate_lnk {f : State → State} (hf : ∀ s, (f s).lnk = s.lnk) (n : Nat) (s : State) : (f^[n] s).lnk = s.lnk :=
  Function.Iterate.rec (fun t => t.lnk = s.lnk) rfl (fun t ht => (hf t).trans ht) n

theorem takeAllWaiting_lnk (s : State) : (takeAllWaiting s).lnk = s.lnk := by
  have hheat : ∀ s, (heatTakesNext s).lnk = s.lnk := fun _ => lnk_kept .heatUpdate rfl rfl _ _ rfl
  have hrte : ∀ s, (rteTakesNext s).lnk = s.lnk := fun _ => lnk_kept .rteResult rfl rfl _ _ rfl
  have heng : ∀ s, (engTakesNext s).lnk = s.lnk := fun _ => lnk_kept .engResultEvaluation rfl rfl _ _ rfl
  have hwru : ∀ s, (wruTakesNext s).lnk = s.lnk := fun _ => lnk_kept .wruResult rfl rfl _ _ rfl
  have hinc : ∀ s, (wruTakesNextIncrement s).lnk = s.lnk := fun _ => lnk_kept .engineIncrement rfl rfl _ _ rfl
  have hkm : ∀ s, (wruTakesNextDistance s).lnk = s.lnk := fun _ => lnk_kept .kmDistance rfl rfl _ _ rfl
  unfold takeAllWaiting
  dsimp only
  rw [iterate_lnk hkm, iterate_lnk hinc, iterate_lnk hwru, iterate_lnk heng, iterate_lnk hrte, iterate_lnk hheat,
    lnk_kept .wruLoadingGrade rfl rfl _ _ rfl, lnk_kept .heatInit rfl rfl _ _ rfl]

/-- A RESTART leaves LNK at its RESTART values. -/
theorem restartEffect_lnk (s : State) : (restartEffect s).lnk = s.lnk.restarted := by
  unfold restartEffect
  dsimp only
  rw [enterLoading_lnk, countHotStop_lnk, takeAllWaiting_lnk]

/-! ## Every command and every step -/

theorem Lnk.discardPartial_inv {l : Lnk} (h : l.Inv) : l.discardPartial.Inv := by
  unfold Lnk.discardPartial
  split
  · exact h.queued.discard_inv
  · exact h

/-- The marks of a rate detection are not read by the invariant. -/
theorem Lnk.Inv.with_detection {l : Lnk} (h : l.Inv) (phase : DetPhase) (counting : Bool) (count : Nat) (overflow : Bool) :
    ({ l with phase, counting, measCount := count, overflow } : Lnk).Inv :=
  Lnk.inv_iff.mpr ⟨h.receiving.of_eq rfl rfl rfl, h.queued.of_eq rfl rfl rfl rfl id rfl rfl⟩

theorem Lnk.Inv.with_awaitRise {l : Lnk} (h : l.Inv) (b : Bool) : ({ l with awaitRise := b } : Lnk).Inv :=
  Lnk.inv_iff.mpr ⟨h.receiving.of_eq rfl rfl rfl, h.queued.of_eq rfl rfl rfl rfl id rfl rfl⟩

theorem measurementEnd_lnkInv (n : Nat) {s t : State} (h : s.lnk.Inv) (he : exec (.measurementEnd n) s = .next t) :
    t.lnk.Inv := by
  cases he
  split
  next hdue =>
    dsimp only
    split
    next hacc =>
      simp only [measureAccepted, Bool.and_eq_true, decide_eq_true_eq] at hacc
      have hu : s.lnk.receiver = .hunt := h.unknown (by simp only [Bool.and_eq_true, beq_iff_eq] at hdue; exact hdue.1.1)
      have hg : s.lnk.gapTimer = none := by
        have hgap := h.gap
        simpa [Lnk.isAssembling, hu] using hgap
      refine Lnk.promote_inv (.of_hunt rfl hg) h.intake h.replies h.payloads ⟨?_, h.divisor.2⟩
      simp only [measuredDivisor]
      omega
    · exact h.with_detection _ _ _ _
  · exact h

theorem lineBreak_lnkInv (low : Nat) {s t : State} (h : s.lnk.Inv) (he : exec (.lineBreak low) s = .next t) : t.lnk.Inv := by
  cases he
  split
  · split
    · exact Lnk.inv_iff.mpr ⟨.of_hunt rfl rfl, h.queued.of_eq rfl rfl rfl rfl (fun hr => by cases hr) rfl rfl⟩
    · exact Lnk.inv_iff.mpr ⟨.of_hunt rfl rfl, h.queued.of_eq rfl rfl rfl rfl id rfl rfl⟩
  · exact h

theorem gapTimerExpiry_lnkInv {s t : State} (h : s.lnk.Inv) (he : exec .gapTimerExpiry s = .next t) : t.lnk.Inv := by
  cases he
  split
  next hg =>
    have hr := s.lnk.isAssembling_iff.mp (h.gap ▸ by simp [hg])
    rw [Lnk.discardPartial_assembling hr]
    exact h.queued.discard_inv
  · exact h

theorem transmitEnd_lnkInv {s t : State} (h : s.lnk.Inv) (he : exec .transmitEnd s = .next t) : t.lnk.Inv := by
  simp only [exec, execTransmitEnd, Host.Outcome.next.injEq] at he
  subst he
  split
  · exact h
  · split
    · rw [restartEffect_lnk]
      exact h.restarted
    · rw [State.setLnk_lnk]
      split
      · exact Lnk.promote_inv (h.receiving.of_eq rfl rfl rfl) h.intake h.replies h.payloads h.divisor
      next hs =>
        exact Lnk.inv_iff.mpr ⟨h.receiving.of_eq rfl rfl rfl, ⟨h.intake, h.replies, h.payloads, h.divisor,
          fun hr => absurd hr hs⟩⟩

theorem stageAnswer_lnkInv {s t : State} (h : s.lnk.Inv) (he : exec .stageAnswer s = .next t) : t.lnk.Inv := by
  simp only [exec, execStageAnswer, Host.Outcome.next.injEq] at he
  subst he
  split
  · exact h
  next a rest hr =>
    split
    · have hlen := h.replies
      rw [hr, List.length_cons] at hlen
      exact Lnk.stage_inv h _ rest _ (by omega)
    · exact h

theorem stageNotice_lnkInv {s t : State} (h : s.lnk.Inv) (he : exec .stageNotice s = .next t) : t.lnk.Inv := by
  cases he
  split
  · exact Lnk.stage_inv h _ s.lnk.replies s.lnk.restartHold h.replies
  · exact h

/-- A request takes a frame from the intake queue and adds an answer where there is room (R156, R170). -/
theorem request_lnkInv (i : Instr) (hi : isRequest i = true) {s t : State} (h : s.lnk.Inv) (he : exec i s = .next t) :
    t.lnk.Inv := by
  rcases request_lnk i hi s t he with rfl | ⟨f, rest, a, hserves, hlnk⟩
  · exact h
  · have hin := hserves.intake
    rw [hlnk]
    refine Lnk.inv_iff.mpr ⟨h.receiving.of_eq rfl rfl rfl, ⟨?_, ?_, fun g hg => ?_, h.divisor, h.staging⟩⟩
    · have hlen := h.intake
      rw [hin, List.length_cons] at hlen
      exact (Nat.le_succ _).trans hlen
    · rw [List.length_append]
      exact hserves.room
    · exact h.payloads g (hin ▸ List.mem_cons_of_mem f hg)

theorem exec_lnkInv (i : Instr) {s t : State} (h : s.lnk.Inv) (he : exec i s = .next t) : t.lnk.Inv := by
  by_cases hr : isRequest i = true
  · exact request_lnkInv i hr h he
  by_cases hi : changesLnk i = false
  · rw [lnk_kept i hi (Bool.eq_false_iff.mpr hr) s t he]
    exact h
  cases i
  case powerOn straps | resetn straps =>
    cases he
    rw [enterLoading_lnk]
    exact Lnk.reset_inv straps
  case frameReceived b =>
    simp only [exec, execFrameReceived, Host.Outcome.next.injEq] at he
    subst he
    split
    next hs _ =>
      split
      · exact Lnk.receive_inv h hs b
      · exact h
    · exact h
  case gapTimerExpiry => exact gapTimerExpiry_lnkInv h he
  case framingFault low =>
    cases he
    split
    · exact (Lnk.discardPartial_inv h).with_awaitRise false
    · exact h
  case lineBreak low => exact lineBreak_lnkInv low h he
  case breakWaitEnd low =>
    cases he
    split
    · exact h.with_detection _ _ _ _
    · exact h
  case measureStart =>
    cases he
    split
    · exact h.with_detection _ _ _ _
    · exact h
  case measurementEnd n => exact measurementEnd_lnkInv n h he
  case stageAnswer => exact stageAnswer_lnkInv h he
  case stageNotice => exact stageNotice_lnkInv h he
  case transmitEnd => exact transmitEnd_lnkInv h he
  case characterReceived b =>
    cases he
    split
    next hs => exact Lnk.receive_inv h (by simpa using hs) b
    · exact h
  case measureFirstRisingEdge =>
    cases he
    split
    · exact h.with_detection _ _ _ _
    · exact h
  case measurementCountOverflow =>
    cases he
    split
    · exact h.with_detection _ _ _ _
    · exact h
  all_goals exact absurd rfl hi

/-- Settles O60: every command keeps the invariant, and a millisecond brings the gap timer nearer its end. -/
theorem linkKept : Obligations.LinkKept := by
  intro s t h he
  unfold step at he
  split at he
  · cases he
    refine Lnk.inv_iff.mpr ⟨⟨h.unknown, ?_, h.frame⟩, h.queued.of_eq rfl rfl rfl rfl id rfl rfl⟩
    exact (Option.isSome_map ..).trans h.gap
  · refine exec_lnkInv _ ?_ he
    exact h

end Sys2Proof.Machine
end

section
/-!
PROOFS. The Notice Unit: its taking of a record and its timer (R180, R181), its invariant, and the way of every event record (R184),
for which every operation of the other blocks only adds to the records raised (R179).
-/
namespace Sys2Proof.Machine

/-! ## Records raised (R179) -/

/-- Between two states records have only been added to those raised. -/
def Raises (s t : State) : Prop := s.mail.raised <+: t.mail.raised

theorem Raises.of_eq {s t : State} (h : t.mail.raised = s.mail.raised) : Raises s t := by
  rw [Raises, h]

section
variable {s t : State} (h : Raises s t)
include h

theorem Raises.kept {u : State} (hu : u.mail.raised = t.mail.raised) : Raises s u := by
  rw [Raises, hu]
  exact h

theorem Raises.raise (src : Block) (k : EventKind) (a b : Nat) : Raises s (raise src k a b t) :=
  List.IsPrefix.trans h (List.prefix_append _ _)

theorem Raises.reply (e : Byte) (st : Status) (d : Nat) : Raises s (reply e st d t) := h

/-! ### ENG -/

theorem quietBreach_raises (a : Nat) : Raises s (quietBreach a t) := by
  unfold quietBreach
  split
  · exact h
  · apply Raises.raise
    exact h

theorem startEngine_raises (kind : StartKind) : Raises s (startEngine kind t) := by
  unfold startEngine
  dsimp only
  split
  · apply quietBreach_raises
    apply Raises.raise
    exact h
  · apply Raises.raise
    exact h

theorem stopEngine_raises (cause : StopCause) : Raises s (stopEngine cause t) := by
  apply Raises.raise
  exact h

theorem hotStop_raises (cause : StopCause) : Raises s (hotStop cause t) := by
  apply stopEngine_raises
  exact h

theorem engineCaught_raises : Raises s (engineCaught t) := by
  apply Raises.raise
  exact h

theorem afterFailure_raises (a : Nat) : Raises s (afterFailure a t) := by
  unfold afterFailure
  split
  · apply Raises.raise
    exact h
  · exact h

theorem stall_raises (forced : Bool) : Raises s (stall forced t) := by
  apply afterFailure_raises
  apply Raises.raise
  exact h

theorem refuseByBudget_raises : Raises s (refuseByBudget t) := by
  unfold refuseByBudget
  split
  · exact h
  · apply Raises.raise
    exact h

theorem evalStopped_raises (x : ResultRecord) : Raises s (evalStopped x t) := by
  unfold evalStopped
  split
  · apply startEngine_raises
    exact h
  split
  · split
    · exact h
    split
    · exact refuseByBudget_raises h
    · apply startEngine_raises
      exact h
  · exact h

theorem evalCranking_raises (x : ResultRecord) : Raises s (evalCranking x t) := by
  have hmarked : Raises s (markForced (forcedCondition t x) t) := h
  unfold evalCranking
  dsimp only
  split
  · exact engineCaught_raises hmarked
  split
  · split
    · exact quietBreach_raises hmarked 1
    · exact stopEngine_raises hmarked _
  · exact hmarked

theorem evalPause_raises (x : ResultRecord) : Raises s (evalPause x t) := by
  have hmarked : Raises s (markForced (forcedCondition t x) t) := h
  unfold evalPause
  dsimp only
  split
  · exact engineCaught_raises hmarked
  · exact hmarked

theorem evalWarmup_raises (x : ResultRecord) : Raises s (evalWarmup x t) := by
  unfold evalWarmup
  split
  · exact stall_raises h _
  split
  · split
    · exact quietBreach_raises h 1
    · exact hotStop_raises h _
  · exact h

theorem evalRunning_raises (x : ResultRecord) : Raises s (evalRunning x t) := by
  unfold evalRunning
  dsimp only
  split
  · exact stall_raises h _
  split
  · split
    · apply quietBreach_raises
      exact h
    · exact hotStop_raises h _
  split
  · exact h
  split
  · split <;> exact h
  · exact h

theorem evalCooldown_raises (x : ResultRecord) : Raises s (evalCooldown x t) := by
  unfold evalCooldown
  split
  · exact stopEngine_raises h _
  split
  · split
    · apply quietBreach_raises
      exact h
    · exact h
  split
  · exact hotStop_raises h _
  split <;> exact h

theorem engTakes_raises (x : ResultRecord) : Raises s (engTakes x t) := by
  have hbegun : Raises s (beginResult x t) := h
  unfold engTakes
  dsimp only
  split
  · exact evalStopped_raises hbegun x
  · exact evalCranking_raises hbegun x
  · exact evalPause_raises hbegun x
  · exact evalWarmup_raises hbegun x
  · exact evalRunning_raises hbegun x
  · exact evalCooldown_raises hbegun x
  · exact hbegun

theorem engHalt_raises : Raises s (engHalt t) := by
  have hhalted : Raises s ((prune t).setEng { (prune t).eng with stateTimer := none, stopHold := none }) := h
  unfold engHalt
  dsimp only
  split
  · exact hhalted
  · exact hhalted
  · exact stopEngine_raises hhalted _
  · exact stopEngine_raises hhalted _
  · exact stopEngine_raises hhalted _
  · exact hotStop_raises hhalted _
  · exact hotStop_raises hhalted _

theorem crankTimerAct_raises : Raises s (execCrankTimerExpiry.act t) := by
  apply afterFailure_raises
  apply Raises.raise
  exact h

theorem pauseTimerAct_raises : Raises s (execPauseTimerExpiry.act t) := by
  unfold execPauseTimerExpiry.act
  split
  · exact startEngine_raises h _
  · exact stopEngine_raises h _

theorem faultClearServe_raises (f : Frame) : Raises s (execFaultClear.serve f t) := by
  have hpruned : Raises s ((prune t).setEng { (prune t).eng with attempts := 0 }) := h
  unfold execFaultClear.serve
  split
  · dsimp only
    split
    · exact stopEngine_raises hpruned _
    all_goals exact h
  · exact h

/-! ### WRU -/

theorem setLevel_raises (c : Nat) (l : Level) : Raises s (setLevel c l t) := by
  unfold setLevel
  dsimp only
  split
  · exact h
  · apply Raises.raise
    exact h

theorem regrade_raises (c : Nat) : Raises s (regrade c t) := setLevel_raises h c _

theorem setLamp_raises : Raises s (setLamp t) := h.kept (by simp)

theorem foldl_raises {α : Type} {f : State → α → State} (hf : ∀ t x, Raises s t → Raises s (f t x)) (l : List α) :
    Raises s (l.foldl f t) := by
  induction l generalizing t with
  | nil => exact h
  | cons x r ih => exact ih (hf t x h)

theorem gradeAll_raises : Raises s (gradeAll t) := foldl_raises h (fun _ c ht => regrade_raises ht c) _

theorem putCounter_raises (c : Nat) (k : Counter) (u : Nat) : Raises s (putCounter c k u t) := by
  unfold putCounter regradeSeeded
  dsimp only
  split
  · exact h
  split
  · apply regrade_raises
    exact h
  · exact h

theorem feedResidue_raises (c unit inc : Nat) : Raises s (feedResidue c unit inc t) := by
  unfold feedResidue
  dsimp only
  split
  · exact h
  · exact putCounter_raises h _ _ _

theorem wruTakes_raises (x : ResultRecord) : Raises s (wruTakes x t) :=
  setLamp_raises (foldl_raises h (fun _ i ht => feedResidue_raises ht i.1 i.2.1 i.2.2) _)

theorem wruTakesIncrement_raises (c n : Nat) : Raises s (wruTakesIncrement c n t) := by
  refine setLamp_raises ?_
  unfold feedCount
  dsimp only
  split
  · exact h
  · exact putCounter_raises h _ _ _

theorem gradeThreshold_raises (id : Nat) : Raises s (gradeThreshold id t) := by
  unfold gradeThreshold
  split
  · exact setLamp_raises (regrade_raises h _)
  · exact h

theorem wruTakesLoadEnd_raises : Raises s (wruTakesLoadEnd t) := by
  unfold wruTakesLoadEnd
  split
  · dsimp only
    split
    · apply setLamp_raises
      apply gradeAll_raises
      exact h
    · exact h
  · exact h

theorem wearSeedServe_raises (f : Frame) : Raises s (execWearSeed.serve f t) := by
  unfold execWearSeed.serve
  split
  · exact h
  · apply Raises.reply
    apply setLamp_raises
    apply gradeAll_raises
    exact h

theorem wearServiceServe_raises (f : Frame) : Raises s (execWearService.serve f t) := by
  unfold execWearService.serve
  dsimp only
  split
  · exact h
  split
  · exact h
  split
  · exact h
  · apply Raises.reply
    apply setLamp_raises
    apply Raises.raise
    exact h

/-! ### RTE -/

theorem enterSegment_raises (p : Plan) (k excess : Nat) : Raises s (enterSegment p k excess t) := by
  unfold enterSegment
  dsimp only
  split
  · apply Raises.raise
    exact h
  · apply Raises.raise
    apply Raises.raise
    exact h

theorem endPlan_raises (action : EndAction) (laps : Nat) : Raises s (endPlan action laps t) := by
  apply Raises.raise
  exact h

theorem applyEndAction_raises (p : Plan) (excess : Nat) : Raises s (applyEndAction p excess t) := by
  unfold applyEndAction
  split
  · exact endPlan_raises h _ _
  · apply enterSegment_raises
    apply Raises.raise
    exact h
  · split
    · apply enterSegment_raises
      apply Raises.raise
      exact h
    · dsimp only
      split
      · exact endPlan_raises h _ _
      · apply enterSegment_raises
        apply Raises.raise
        exact h

theorem moveOn_raises (p : Plan) (excess : Nat) : Raises s (moveOn p excess t) := by
  unfold moveOn
  split
  · exact enterSegment_raises h _ _ _
  · exact applyEndAction_raises h _ _

theorem advanceCursor_raises (v dt d : Nat) : Raises s (advanceCursor v dt d t) := by
  unfold advanceCursor
  dsimp only
  split
  · split
    · apply moveOn_raises
      exact h
    · exact h
  · exact h

theorem rteTakes_raises (x : ResultRecord) : Raises s (rteTakes x t) := by
  unfold rteTakes
  dsimp only
  split
  · apply advanceCursor_raises
    exact h
  all_goals exact h

theorem trimTest_raises (p : Plan) (k : Nat) (flag : Bool) : Raises s (trimTest p k flag t).1 := by
  unfold trimTest
  split
  · split
    · exact h.raise _ _ _ _
    split
    · exact h.raise _ _ _ _
    · exact h
  · exact h

theorem rteStart_raises : Raises s (rteStart t) := h.kept (by simp)

theorem routeLoadServe_raises (f : Frame) : Raises s (execRouteLoad.serve f t) := by
  unfold execRouteLoad.serve
  dsimp only
  (repeat' split) <;> exact h

theorem routeArmServe_raises (f : Frame) : Raises s (execRouteArm.serve f t) := by
  unfold execRouteArm.serve
  split
  · exact h
  split
  · exact h
  split
  · exact h
  · apply Raises.reply
    apply enterSegment_raises
    exact h

theorem routeDepartServe_raises (f : Frame) : Raises s (execRouteDepart.serve f t) := by
  unfold execRouteDepart.serve
  split
  · exact (moveOn_raises h _ _).kept rfl
  · exact h

theorem routeSyncServe_raises (f : Frame) : Raises s (execRouteSync.serve f t) := by
  unfold execRouteSync.serve
  dsimp only
  split
  · split
    · exact h
    · exact (enterSegment_raises (trimTest_raises h _ _ _) _ _ _).kept rfl
  · exact h

/-! ### DSP, ENV and MDC -/

theorem dispatch_raises (x : DemandFields) : Raises s (dispatch x t) := by
  have hsettled : Raises s (settlePermit x t) := by
    unfold settlePermit
    split
    · apply Raises.raise
      exact h
    · exact h
  exact hsettled.kept rfl

theorem demandServe_raises (f : Frame) : Raises s (execDemand.serve f t) := by
  unfold execDemand.serve
  split
  · exact dispatch_raises h _
  all_goals exact h

theorem heatTakes_raises (x : ResultRecord) : Raises s (heatTakes x t) := by
  unfold heatTakes heatMark
  dsimp only
  split
  · apply Raises.raise
    exact h
  split
  · apply Raises.raise
    exact h
  · exact h

theorem demandTimerExpiry_raises {u : State} (he : exec .demandTimerExpiry t = .next u) : Raises s u := by
  simp only [exec, execDemandTimerExpiry, Host.Outcome.next.injEq] at he
  subst he
  split
  · split
    · apply Raises.raise
      exact h
    all_goals exact h
  · exact h

theorem checkFailure_raises (m : MapData) : Raises s (checkFailure m t) := by
  unfold checkFailure
  split
  · dsimp only
    split
    · exact h
    split
    · exact h
    split
    · exact h
    split
    · exact h
    · apply Raises.raise
      exact h
  · exact h

theorem finishLoading_raises (c : Cal) : Raises s (finishLoading c t) := by
  apply Raises.raise
  exact h

theorem imageReadEnd_raises (m : MapData) {u : State} (he : exec (.imageReadEnd m) t = .next u) : Raises s u := by
  simp only [exec, execImageReadEnd, Host.Outcome.next.injEq] at he
  subst he
  split
  · split
    · apply finishLoading_raises
      apply foldl_raises (t := t.setEnv { t.env with port := .idle }) h
      exact fun _ id ht => ht.raise .mdc .calClamped 0 id
    · apply finishLoading_raises
      apply Raises.raise
      exact h
  · exact h

theorem startServe_raises (f : Frame) : Raises s (execStart.serve f t) := by
  unfold execStart.serve
  split
  · split
    · exact h
    · refine rteStart_raises ?_
      apply Raises.raise
      exact h
  all_goals exact h

theorem haltServe_raises (f : Frame) : Raises s (execHalt.serve f t) := by
  unfold execHalt.serve
  split
  · refine engHalt_raises ?_
    apply Raises.raise
    exact h
  all_goals exact h

theorem calWriteEffect_raises (id : Nat) : Raises s (calWriteEffect id t) := by
  unfold calWriteEffect
  split
  · exact h
  split
  · exact gradeThreshold_raises h _
  · exact h

theorem calWriteServe_raises (f : Frame) : Raises s (execCalWrite.serve f t) := by
  unfold execCalWrite.serve
  split
  · dsimp only
    split
    · apply Raises.reply
      apply calWriteEffect_raises
      exact h
    · exact h
  all_goals exact h

theorem takeRequest_raises (type : Byte) (ready : Frame → State → Bool) {serve : Frame → State → State}
    (hserve : ∀ f t, Raises s t → Raises s (serve f t)) : Raises s (takeRequest type ready serve t) :=
  takeRequest_preserves type ready (fun _ _ ht => ht) hserve h

theorem takeQuery_raises (topic : Nat) (ready : Frame → State → Bool) (before : State → State)
    (content : State → List Byte) (hb : ∀ t, (before t).mail.raised = t.mail.raised) :
    Raises s (takeQuery topic ready before content t) :=
  h.kept (takeQuery_keeps (fun s => s.mail.raised) topic ready before content t (fun _ _ => rfl) hb)

theorem stateTimerExpiry_raises (st : EngState) {act : State → State} (hact : ∀ t, Raises s t → Raises s (act t)) :
    Raises s (stateTimerExpiry st act t) := by
  unfold stateTimerExpiry
  split
  · exact hact (prune t) h
  · exact h

theorem measurementEnd_raises (n : Nat) {u : State} (he : exec (.measurementEnd n) t = .next u) : Raises s u := by
  simp only [exec, execMeasurementEnd, Host.Outcome.next.injEq] at he
  subst he
  split
  · split
    · apply Raises.raise
      exact h
    · exact h
  · exact h

end

/-! ### Every command but those of NTU -/

/-- Every request only adds to the records raised. -/
theorem request_raises (i : Instr) (hi : isRequest i = true) {s t : State} (he : exec i s = .next t) : Raises s t := by
  have h : Raises s s := .of_eq rfl
  cases i
  case unknownType => exact .of_eq (execUnknown_keeps (fun s => s.mail.raised) _ (.inl rfl) s t he fun _ _ => rfl)
  case queryUnknownTopic => exact .of_eq (execUnknown_keeps (fun s => s.mail.raised) _ (.inr rfl) s t he fun _ _ => rfl)
  case demand => cases he; exact takeRequest_raises h _ _ fun f _ ht => demandServe_raises ht f
  case start => cases he; exact takeRequest_raises h _ _ fun f _ ht => startServe_raises ht f
  case halt => cases he; exact takeRequest_raises h _ _ fun f _ ht => haltServe_raises ht f
  case restart => cases he; exact takeRequest_raises h _ _ fun _ _ ht => ht
  case faultClear => cases he; exact takeRequest_raises h _ _ fun f _ ht => faultClearServe_raises ht f
  case calWrite => cases he; exact takeRequest_raises h _ _ fun f _ ht => calWriteServe_raises ht f
  case calRead =>
    cases he
    refine takeRequest_raises h _ _ fun f t ht => ht.kept ?_
    simp only [execCalRead.serve]
    split <;> rfl
  case routeLoad => cases he; exact takeRequest_raises h _ _ fun f _ ht => routeLoadServe_raises ht f
  case routeArm => cases he; exact takeRequest_raises h _ _ fun f _ ht => routeArmServe_raises ht f
  case routeDepart => cases he; exact takeRequest_raises h _ _ fun f _ ht => routeDepartServe_raises ht f
  case routeSync => cases he; exact takeRequest_raises h _ _ fun f _ ht => routeSyncServe_raises ht f
  case routeClear => cases he; exact takeRequest_raises h _ _ fun _ _ ht => ht
  case mapFlush =>
    cases he
    refine takeRequest_raises h _ _ fun f t ht => ht.kept ?_
    simp only [execMapFlush.serve]
    split <;> rfl
  case wearSeed => cases he; exact takeRequest_raises h _ _ fun f _ ht => wearSeedServe_raises ht f
  case wearService => cases he; exact takeRequest_raises h _ _ fun f _ ht => wearServiceServe_raises ht f
  case queryStatus | queryWearA | queryWearB | queryPredict | queryRoute | queryStartsA | queryStartsB | queryMap =>
    cases he
    exact takeQuery_raises h _ _ _ _ fun _ => rfl
  all_goals cases hi

/-- Every command but those that change NTU only adds to the records raised. -/
theorem exec_raises (i : Instr) (hi : changesNtu i = false) {s t : State} (he : exec i s = .next t) : Raises s t := by
  by_cases hr : isRequest i = true
  · exact request_raises i hr he
  have h : Raises s s := .of_eq rfl
  cases i
  case imageReadEnd m => exact imageReadEnd_raises h m he
  case measurementEnd n => exact measurementEnd_raises h n he
  case demandTimerExpiry => exact demandTimerExpiry_raises h he
  case heatInit =>
    cases he
    unfold dspTakesLoadEnd
    split
    · dsimp only
      split <;> exact h
    · exact h
  case wruLoadingGrade => cases he; exact wruTakesLoadEnd_raises h
  case heatUpdate =>
    cases he
    unfold heatTakesNext
    split
    · exact h
    · apply heatTakes_raises
      exact h
  case rteResult =>
    cases he
    unfold rteTakesNext
    split
    · exact h
    · apply rteTakes_raises
      exact h
  case engResultEvaluation =>
    cases he
    unfold engTakesNext
    split
    · exact h
    · apply engTakes_raises
      exact h
  case crankTimerExpiry => cases he; exact stateTimerExpiry_raises h _ fun _ => crankTimerAct_raises
  case pauseTimerExpiry => cases he; exact stateTimerExpiry_raises h _ fun _ => pauseTimerAct_raises
  case warmTimerExpiry => cases he; exact stateTimerExpiry_raises h _ fun _ ht => ht
  case cooldownTimerExpiry => cases he; exact stateTimerExpiry_raises h _ fun _ ht => stopEngine_raises ht _
  case wruResult =>
    cases he
    unfold wruTakesNext
    split
    · exact h
    · apply wruTakes_raises
      exact h
  case engineIncrement =>
    cases he
    unfold wruTakesNextIncrement
    split
    · exact h
    · apply wruTakesIncrement_raises
      exact h
  case kmDistance =>
    cases he
    unfold wruTakesNextDistance
    split
    · exact h
    · exact h.kept (by simp)
  case fillSuccess m => cases he; exact h.kept (by simp)
  case checkFailure m => cases he; exact checkFailure_raises h m
  case stopHoldExpiry | lampTimerExpiry | frameReceived | gapTimerExpiry | framingFault | lineBreak | breakWaitEnd
      | measureStart | stageAnswer | characterReceived | measureFirstRisingEdge | measurementCountOverflow =>
    simp only [exec, execStopHoldExpiry, execLampTimerExpiry, execFrameReceived, execGapTimerExpiry, execFramingFault,
      execLineBreak, execBreakWaitEnd, execMeasureStart, execStageAnswer, execCharacterReceived,
      execMeasureFirstRisingEdge, execMeasurementCountOverflow, Host.Outcome.next.injEq] at he
    subst he
    (repeat' split) <;> exact h
  all_goals first | exact absurd rfl hr | cases hi

end Sys2Proof.Machine
end

section
/-!
PROOFS. NTU's own operations (R180 to R182): its invariant, and where each event record goes (R184).
-/
namespace Sys2Proof.Machine

/-! ## Taking the oldest record of a block -/

/-- No record of a block waits, or the oldest one stands first of its block in the list. -/
theorem takeRaised_cases (src : Block) (l : List (Block × EventRec)) :
    takeRaised src l = none
      ∨ ∃ pre e post, l = pre ++ (src, e) :: post ∧ (∀ r ∈ pre, r.1 ≠ src) ∧ takeRaised src l = some (e, pre ++ post) := by
  induction l with
  | nil => exact .inl rfl
  | cons r rest ih =>
    obtain ⟨b, e⟩ := r
    by_cases hb : b = src
    · subst hb
      exact .inr ⟨[], e, rest, rfl, by simp, by simp [takeRaised]⟩
    · rcases ih with h | ⟨pre, e', post, hl, hpre, h⟩
      · exact .inl (by simp [takeRaised, hb, h])
      · exact .inr ⟨(b, e) :: pre, e', post, by simp [hl], by simpa [hb] using hpre, by simp [takeRaised, hb, h]⟩

theorem takeRaised_split {src : Block} {pre : List (Block × EventRec)} (hpre : ∀ r ∈ pre, r.1 ≠ src) (e : EventRec)
    (post : List (Block × EventRec)) : takeRaised src (pre ++ (src, e) :: post) = some (e, pre ++ post) := by
  induction pre with
  | nil => simp [takeRaised]
  | cons r rest ih =>
    obtain ⟨hr, hrest⟩ := List.forall_mem_cons.mp hpre
    simp [takeRaised, hr, ih hrest]

/-! ## The queue, the due mark and the timer -/

theorem Ntu.take_full {n : Ntu} (h : 16 ≤ n.queue.length) (e : EventRec) (now : PartTime) (delay : Nat) :
    n.take e now delay = { n with lost := true } := if_pos h

theorem Ntu.take_room {n : Ntu} (h : n.queue.length < 16) (e : EventRec) (now : PartTime) (delay : Nat) :
    (n.take e now delay).queue = n.queue ++ [e] ∧ (n.take e now delay).lost = n.lost := by
  have hroom : ¬Config.eventDepth ≤ n.queue.length := Nat.not_le.mpr h
  unfold Ntu.take
  rw [if_neg hroom]
  dsimp only
  split
  · exact ⟨rfl, rfl⟩
  split
  · split <;> exact ⟨rfl, rfl⟩
  · exact ⟨rfl, rfl⟩

/-- What a taken record does to NTU (R180, R181). -/
theorem Ntu.take_eq (n : Ntu) (e : EventRec) (now : PartTime) (delay : Nat) :
    n.take e now delay
      = if 16 ≤ n.queue.length then { n with lost := true }
        else if 6 ≤ (n.queue ++ [e]).length then { n with queue := n.queue ++ [e], due := true, timer := none }
        else if n.queue = [] ∧ n.due = false then
          (if delay = 0 then { n with queue := n.queue ++ [e], due := true }
          else { n with queue := n.queue ++ [e], timer := some (now + BitVec.ofNat 32 delay) })
        else { n with queue := n.queue ++ [e] } := by
  unfold Ntu.take
  dsimp only
  split
  · rfl
  split
  · rfl
  by_cases hempty : n.queue = [] ∧ n.due = false
  · simp [hempty, after]
  · rw [if_neg hempty, if_neg (by simpa using hempty)]

theorem Ntu.take_inv {n : Ntu} (h : n.Inv) (e : EventRec) (now : PartTime) (delay : Nat) : (n.take e now delay).Inv := by
  obtain ⟨hsize, hsix, hdue, htimer, hlost⟩ := h
  rw [Ntu.take_eq]
  split
  case isTrue hfull => exact ⟨hsize, hsix, hdue, htimer, fun _ => hsix (by omega)⟩
  case isFalse hroom =>
  have hlen : (n.queue ++ [e]).length ≤ 16 := by simp; omega
  have hne : n.queue ++ [e] ≠ [] := by simp
  split
  case isTrue hsix' => exact ⟨hlen, fun _ => rfl, fun _ => hne, by simp, fun _ => rfl⟩
  case isFalse hfew =>
  split
  case isTrue hempty =>
    obtain ⟨hq, hd⟩ := hempty
    have hstopped : n.timer = none := by simpa [hq] using htimer
    split
    · exact ⟨hlen, fun _ => rfl, fun _ => hne, by simp [hstopped], fun _ => rfl⟩
    · exact ⟨hlen, fun h6 => absurd h6 hfew, fun _ => hne, by simp [hd], hlost⟩
  case isFalse hwaits =>
    refine ⟨hlen, fun h6 => absurd h6 hfew, fun _ => hne, htimer.trans ?_, hlost⟩
    by_cases hd : n.due = false
    · have hq : n.queue ≠ [] := fun hq => hwaits ⟨hq, hd⟩
      simp [hq, hd]
    · simp [hd]

theorem Ntu.noticeTaken_inv {n : Ntu} (h : n.Inv) (hdue : n.due = true) : n.noticeTaken.Inv := by
  have hstopped : n.timer = none := by simpa [hdue] using h.timer
  have hsize := h.size
  refine ⟨?_, ?_, ?_, ?_, fun hl => by cases hl⟩
  · simp only [Ntu.noticeTaken, List.length_drop]; omega
  · intro h6
    have hne : n.queue.drop 6 ≠ [] := fun he => by simp [Ntu.noticeTaken, he] at h6
    simp [Ntu.noticeTaken, hdue, hne]
  · intro hd
    simpa [Ntu.noticeTaken, hdue] using hd
  · simp [Ntu.noticeTaken, hstopped, hdue]

theorem Ntu.reset_inv : Ntu.reset.Inv := by
  constructor <;> simp [Ntu.reset]

theorem Ntu.Inv.expired {n : Ntu} (h : n.Inv) {now : PartTime} (he : expired now n.timer = true) :
    ({ n with due := true, timer := none } : Ntu).Inv := by
  have hruns : n.timer.isSome = true := by
    cases ht : n.timer
    · simp [ht, Machine.expired] at he
    · rfl
  exact ⟨h.size, fun _ => rfl, fun _ => (h.timer.mp hruns).1, by simp, fun _ => rfl⟩

/-! ## The commands of NTU -/

theorem exec_eventRaised {s : State} {src : Block} {e : EventRec} {pre post : List (Block × EventRec)}
    (hraised : s.mail.raised = pre ++ (src, e) :: post) (hpre : ∀ r ∈ pre, r.1 ≠ src) :
    exec (.eventRaised src) s
      = .next ((s.setMail { s.mail with raised := pre ++ post }).setNtu (s.ntu.take e s.now s.cal.noticeDelay)) := by
  simp only [exec, execEventRaised, hraised, takeRaised_split hpre]

theorem exec_eventRaised_none {s : State} {src : Block} (h : takeRaised src s.mail.raised = none) :
    exec (.eventRaised src) s = .next s := by
  simp only [exec, execEventRaised, h]

theorem exec_coalescingTimerExpiry (s : State) :
    exec .coalescingTimerExpiry s
      = .next (if expired s.now s.ntu.timer then s.setNtu { s.ntu with due := true, timer := none } else s) := rfl

/-- Settles O50: a taken record (`Ntu.take_eq`) and the timer's expiry. -/
theorem noticeEvents : Obligations.NoticeEvents := by
  refine ⟨fun s src e pre post hraised hpre => ?_, fun s e htimer hreached => ?_⟩
  · intro queue ntu
    have hntu : s.ntu.take e s.now s.cal.noticeDelay = ntu := Ntu.take_eq s.ntu e s.now s.cal.noticeDelay
    exact (exec_eventRaised hraised hpre).trans (by rw [hntu]; rfl)
  · have hexpired : expired s.now s.ntu.timer = true := by
      rw [htimer]
      exact decide_eq_true hreached
    rw [exec_coalescingTimerExpiry, if_pos hexpired]
    rfl

/-! ## Every step -/

/-- Where the event records of NTU and those raised go in one command (R180, R182, R184): nothing is taken, a block's oldest record
is taken, or a NOTICE is built; a reset and a RESTART that takes effect are apart. -/
def EventsMove (s t : State) : Prop :=
  (t.ntu.queue = s.ntu.queue ∧ t.ntu.lost = s.ntu.lost ∧ ∃ new, t.mail.raised = s.mail.raised ++ new)
    ∨ (∃ pre src e post, s.mail.raised = pre ++ (src, e) :: post ∧ (∀ r ∈ pre, r.1 ≠ src)
        ∧ t.mail.raised = pre ++ post
        ∧ (s.ntu.queue.length < 16 → t.ntu.queue = s.ntu.queue ++ [e] ∧ t.ntu.lost = s.ntu.lost)
        ∧ (16 ≤ s.ntu.queue.length → t.ntu.queue = s.ntu.queue ∧ t.ntu.lost = true))
    ∨ (∃ records flags f, s.ntu.queue = records ++ t.ntu.queue ∧ 1 ≤ records.length ∧ records.length ≤ 6
        ∧ t.ntu.lost = false ∧ t.mail.raised = s.mail.raised
        ∧ f.bytes = frameBytes 0xC0
            ([flags, if s.ntu.lost then 1 else 0, BitVec.ofNat 8 records.length] ++ records.flatMap EventRec.bytes)
        ∧ s.lnk.waiting = none
        ∧ ((s.lnk.transmitting = none ∧ t.lnk.transmitting = some f)
          ∨ (s.lnk.transmitting ≠ none ∧ t.lnk.transmitting = s.lnk.transmitting ∧ t.lnk.waiting = some f)))

/-- NTU is at its reset values after a reset, or a RESTART that takes effect. -/
def NoticesReset (i : Instr) (s t : State) : Prop :=
  t.ntu = Ntu.reset
    ∧ ((∃ straps, i = .powerOn straps ∨ i = .resetn straps)
      ∨ (i = .transmitEnd ∧ ∃ f, s.lnk.transmitting = some f ∧ f.restartReply = true))

theorem EventsMove.of_eq {s t : State} (hq : t.ntu.queue = s.ntu.queue) (hl : t.ntu.lost = s.ntu.lost)
    (hr : t.mail.raised = s.mail.raised) : EventsMove s t := .inl ⟨hq, hl, [], by simp [hr]⟩

theorem eventRaised_moves (src : Block) {s t : State} (h : s.ntu.Inv) (he : exec (.eventRaised src) s = .next t) :
    t.ntu.Inv ∧ EventsMove s t := by
  rcases takeRaised_cases src s.mail.raised with hnone | ⟨pre, e, post, hraised, hpre, -⟩
  · rw [exec_eventRaised_none hnone] at he
    cases he
    exact ⟨h, .of_eq rfl rfl rfl⟩
  · rw [exec_eventRaised hraised hpre] at he
    cases he
    refine ⟨Ntu.take_inv h e _ _, .inr (.inl ⟨pre, src, e, post, hraised, hpre, rfl, fun hroom => Ntu.take_room hroom e _ _, ?_⟩)⟩
    intro hfull
    have htaken := Ntu.take_full hfull e s.now s.cal.noticeDelay
    have hqueue := congrArg Ntu.queue htaken
    have hlost := congrArg Ntu.lost htaken
    exact ⟨hqueue, hlost⟩

/-- A staged frame is the transmitting one, or waits behind it (R171). -/
theorem Lnk.stage_transmitting (f : Staged) (l : Lnk) :
    (l.transmitting = none ∧ (l.stage f).transmitting = some f)
      ∨ (l.transmitting ≠ none ∧ (l.stage f).transmitting = l.transmitting ∧ (l.stage f).waiting = some f) := by
  cases ht : l.transmitting with
  | none => exact .inl ⟨rfl, by simp [Lnk.stage, Lnk.promote, Lnk.beginTransmit, ht]⟩
  | some g => exact .inr ⟨by simp, by simp [Lnk.stage, Lnk.promote, ht], by simp [Lnk.stage, Lnk.promote, ht]⟩

theorem stageNotice_moves {s t : State} (h : s.ntu.Inv) (he : exec .stageNotice s = .next t) :
    t.ntu.Inv ∧ EventsMove s t := by
  simp only [exec, execStageNotice, Host.Outcome.next.injEq] at he
  subst he
  split
  case isFalse => exact ⟨h, .of_eq rfl rfl rfl⟩
  case isTrue hstaged =>
  simp only [Bool.and_eq_true, Lnk.mayStage, Option.isNone_iff_eq_none] at hstaged
  obtain ⟨⟨⟨⟨-, hwaiting⟩, -⟩, hdue⟩, hne⟩ := hstaged
  have hrecords : 1 ≤ s.ntu.noticeRecords.length ∧ s.ntu.noticeRecords.length ≤ 6 := by
    have hpos : 0 < s.ntu.queue.length := List.length_pos_iff.mpr (h.due hdue)
    simp only [Ntu.noticeRecords, List.length_take]
    omega
  refine ⟨Ntu.noticeTaken_inv h hdue, .inr (.inr ⟨s.ntu.noticeRecords, byte (linkFlagsNow s !s.ntu.noticeTaken.queue.isEmpty).code, _,
    (List.take_append_drop 6 _).symm, hrecords.1, hrecords.2, rfl, rfl, ?_, hwaiting, Lnk.stage_transmitting _ s.lnk⟩)⟩
  simp only [stagedFrame, noticeBody, byte, bit]
  cases s.ntu.lost <;> rfl

theorem coalescingTimerExpiry_moves {s t : State} (h : s.ntu.Inv) (he : exec .coalescingTimerExpiry s = .next t) :
    t.ntu.Inv ∧ EventsMove s t := by
  rw [exec_coalescingTimerExpiry] at he
  cases he
  split
  case isTrue hexpired => exact ⟨h.expired hexpired, .of_eq rfl rfl rfl⟩
  case isFalse => exact ⟨h, .of_eq rfl rfl rfl⟩

theorem restartEffect_ntu (s : State) : (restartEffect s).ntu = Ntu.reset := by
  unfold restartEffect
  dsimp only
  rw [enterLoading_leaves _ |>.2.2.2.2.2.1]

theorem transmitEnd_moves {s t : State} (h : s.ntu.Inv) (he : exec .transmitEnd s = .next t) :
    (t.ntu.Inv ∧ EventsMove s t) ∨ NoticesReset .transmitEnd s t := by
  simp only [exec, execTransmitEnd, Host.Outcome.next.injEq] at he
  subst he
  split
  · exact .inl ⟨h, .of_eq rfl rfl rfl⟩
  case h_2 f hf =>
    split
    case isTrue hreply => exact .inr ⟨restartEffect_ntu s, .inr ⟨rfl, f, hf, hreply⟩⟩
    case isFalse => exact .inl ⟨h, .of_eq rfl rfl rfl⟩

theorem exec_moves (i : Instr) {s t : State} (h : s.ntu.Inv) (he : exec i s = .next t) :
    (t.ntu.Inv ∧ EventsMove s t) ∨ NoticesReset i s t := by
  by_cases hi : changesNtu i = false
  · have hntu := ntu_kept i hi s t he
    obtain ⟨new, hnew⟩ := exec_raises i hi he
    exact .inl ⟨hntu ▸ h, .inl ⟨by rw [hntu], by rw [hntu], new, hnew.symm⟩⟩
  cases i
  case powerOn straps =>
    cases he
    exact .inr ⟨by simp [resetValues], .inl ⟨straps, .inl rfl⟩⟩
  case resetn straps =>
    cases he
    exact .inr ⟨by simp [resetValues], .inl ⟨straps, .inr rfl⟩⟩
  case eventRaised src => exact .inl (eventRaised_moves src h he)
  case stageNotice => exact .inl (stageNotice_moves h he)
  case coalescingTimerExpiry => exact .inl (coalescingTimerExpiry_moves h he)
  case transmitEnd => exact transmitEnd_moves h he
  all_goals exact absurd rfl hi

/-- Settles O59: by the command at the front of the queue (`exec_moves`); a millisecond touches neither NTU nor the records raised. -/
theorem noticesKept : Obligations.NoticesKept := by
  intro s t h he
  unfold step at he
  split at he
  case h_1 =>
    cases he
    exact ⟨h, .inl ⟨rfl, rfl, [], (List.append_nil _).symm⟩⟩
  case h_2 i rest hpending =>
    rcases exec_moves (s := { s with pending := rest }) i h he with ⟨hinv, hmove⟩ | ⟨hreset, hcommand⟩
    · refine ⟨hinv, ?_⟩
      rcases hmove with hkept | htaken | hnotice
      · exact .inl hkept
      · exact .inr (.inl htaken)
      · exact .inr (.inr (.inl hnotice))
    · exact ⟨hreset ▸ Ntu.reset_inv, .inr (.inr (.inr ⟨hreset, i, rest, hpending, hcommand⟩))⟩

end Sys2Proof.Machine
end

section
/-!
PROOFS. One step, the resets, and LOADING: the end of the image read and its taking at DSP and WRU (R150 to R155, R47, R141).
-/
namespace Sys2Proof.Machine

/-! ## One step -/

/-- Settles O1: `step` on a queue with a front command is `exec` of it. -/
theorem stepRunsFrontCommand : Obligations.StepRunsFrontCommand := by
  intro c rest s hpending
  simp only [step, hpending]

/-- Settles O2: `step` on an empty queue is `tick`. -/
theorem emptyQueueTicks : Obligations.EmptyQueueTicks := by
  intro s hpending
  have hstep : step s = .next (tick s) := by simp only [step, hpending]
  exact hstep

/-! ## Power-on and RESETN (R150, R153) -/

/-- The records and marks with which LOADING ends at once (R153, R155). -/
theorem keepDefaults_eq (a : Nat) (s : State) :
    keepDefaults a s = State.raising
      { s with
        mdc := { s.mdc with op := .config, cal := Cal.defaults }
        mail := { s.mail with loadEndDsp := true, loadEndWru := true } }
      .mdc [(.calDefaulted, a, 0xFFFF), (.stateChange, 1, 0)] := by
  simp only [keepDefaults, finishLoading, raise_eq, State.raising, State.setMdc, State.setMail, List.map, List.append_assoc,
    OpState.code]
  rfl

/-- MDC enters LOADING: the straps decide between the defaults, kept at once, and the read of the image (R153). -/
theorem enterLoading_eq (s : State) :
    enterLoading s =
      if s.mdc.straps.mw = 3 then
        State.raising
          { s with
            mdc := { s.mdc with op := .config, cal := Cal.defaults }
            mail := { s.mail with loadEndDsp := true, loadEndWru := true } }
          .mdc [(.calDefaulted, 1, 0xFFFF), (.stateChange, 1, 0)]
      else if s.mdc.straps.calskip then
        State.raising
          { s with
            mdc := { s.mdc with op := .config, cal := Cal.defaults }
            mail := { s.mail with loadEndDsp := true, loadEndWru := true } }
          .mdc [(.calDefaulted, 0, 0xFFFF), (.stateChange, 1, 0)]
      else { s with mdc := { s.mdc with op := .loading }, env := { s.env with port := .imageRead } } := by
  by_cases hmw : s.mdc.straps.mw = 3
  · rw [if_pos hmw, enterLoading_noMap hmw, keepDefaults_eq]
    rfl
  rw [if_neg hmw]
  by_cases hskip : s.mdc.straps.calskip = true
  · rw [if_pos hskip, enterLoading_skip hmw hskip, keepDefaults_eq]
    rfl
  · rw [if_neg hskip, enterLoading_read hmw hskip]
    rfl

/-- Settles O3: by the reset values and `enterLoading_eq`. -/
theorem powerOnValues : Obligations.PowerOnValues := by
  refine ⟨fun straps s => ?_, fun s hpending => ?_⟩
  · intro base inConfig t
    have hloaded : enterLoading (resetValues straps s) = t := enterLoading_eq (resetValues straps s)
    exact ⟨next_congr hloaded, next_congr hloaded⟩
  · have hread : enterLoading (resetValues ⟨0, 0, false⟩ s)
        = (resetValues ⟨0, 0, false⟩ s).loading.setEnv { Env.reset with port := .imageRead } :=
      enterLoading_read (show (0 : BitVec 2) ≠ 3 by decide) (show false ≠ true by decide)
    refine next_congr (hread.trans ?_)
    simp only [resetValues, hpending]
    rfl

/-- The reset state is what a power-on with all straps 0 leaves (R150). -/
theorem reset_eq_enterLoading : State.reset = enterLoading (resetValues Config.resetStraps State.reset) := rfl

/-- Settles O53: the values of a power-on meet each invariant. -/
theorem resetMeetsInvariants : Obligations.ResetMeetsInvariants := by
  have henv : State.reset.env.Inv := Env.reset_inv (by simp)
  have hlnk : State.reset.lnk.Inv := Lnk.reset_inv Config.resetStraps
  have hroute : RouteInv State.reset := by
    rw [reset_eq_enterLoading]
    exact enterLoading_routeInv (resetValues_routeInv _ _)
  have hwear : WearInv State.reset := by
    rw [reset_eq_enterLoading]
    exact enterLoading_wearInv (resetValues_wearInv _ _)
  have hcontrol : ControlInv State.reset := by
    rw [reset_eq_enterLoading]
    exact enterLoading_resetValues_controlInv _ _
  exact ⟨hcontrol, henv, hroute, hwear, Eng.reset_inv, Ntu.reset_inv, hlnk⟩

/-! ## The image (R152 to R154) -/

theorem mapByte_eq_getD (m : MapData) (addr : Nat) :
    mapByte m addr = ((m.find? fun c => c.1 == addr).map Prod.snd).getD 0xFF := by
  unfold mapByte
  split <;> rename_i h <;> rw [h] <;> rfl

theorem imageValid_iff (m : MapData) :
    imageValid m = true ↔ (crc16 ((List.range 512).map (mapByte m))).toNat
      = (mapByte m 0x200).toNat * 256 + (mapByte m 0x201).toNat := by
  simp [imageValid, imageBytes, mapWord]

/-- A signed id's slot in two's complement, any other's as it stands (R152). -/
theorem calValue_eq (id raw : Nat) :
    calValue id raw = if 64 ≤ id ∧ id ≤ 88 ∧ 2147483648 ≤ raw then (raw : Int) - 4294967296 else (raw : Int) := by
  unfold calValue calSigned signed32
  by_cases hid : 64 ≤ id ∧ id ≤ 88
  · by_cases hraw : raw < 2147483648
    · simp [hid, hraw]
    · simp [hid, hraw, Nat.le_of_not_lt hraw]
  · rw [if_neg (by simpa using hid), if_neg fun h => hid ⟨h.1, h.2.1⟩]

theorem finishLoading_cal (c : Cal) (s : State) : (finishLoading c s).cal = c := rfl

/-- The end of LOADING (R155). -/
theorem finishLoading_eq (c : Cal) (s : State) (src : List (EventKind × Nat × Nat)) :
    finishLoading c (s.raising .mdc src) = State.raising
      { s with
        mdc := { s.mdc with op := .config, cal := c }
        mail := { s.mail with loadEndDsp := true, loadEndWru := true } }
      .mdc (src ++ [(.stateChange, 1, 0)]) := by
  simp only [finishLoading, raise_eq, State.raising, State.setMdc, State.setMail, List.map_append, List.append_assoc]
  rfl

/-- The set with which LOADING ends, and the events before STATE_CHANGE (R153, R154). -/
def imageOutcome (m : MapData) : Cal × List (EventKind × Nat × Nat) :=
  if imageValid m then (imageCal m, (clampedIds m).map fun id => (.calClamped, 0, id))
  else (Cal.defaults, [(.calDefaulted, 2, 0xFFFF)])

theorem exec_imageReadEnd (m : MapData) {s : State} (hop : s.mdc.op = .loading) (hport : s.env.port = .imageRead) :
    exec (.imageReadEnd m) s = .next
      (finishLoading (imageOutcome m).1 ((s.setEnv { s.env with port := .idle }).raising .mdc (imageOutcome m).2)) := by
  refine next_congr ((if_pos (by simp [hop, hport])).trans ?_)
  unfold imageOutcome
  dsimp only
  split
  · rw [foldl_raise]
  · rfl

/-- Settles O4: the image's bytes and slots, then the two outcomes of `exec_imageReadEnd`. -/
theorem imageReadEnds : Obligations.ImageReadEnds := by
  refine ⟨fun m id => ?_, fun m s hop hport => ?_⟩
  · intro image b raw
    have himage : image = mapByte m := funext fun a => (mapByte_eq_getD m a).symm
    have hraw : mapWord m (4 * id) * 65536 + mapWord m (4 * id + 2) = raw := by
      simp only [raw, b, himage, mapWord, Nat.add_assoc, Nat.reduceAdd]
      omega
    refine ⟨?_, ?_⟩
    · simp only [b, himage]
      exact imageValid_iff m
    · rw [imageSlot, hraw]
      exact calValue_eq id raw
  · refine ⟨_, exec_imageReadEnd m hop hport, fun id hid hknown => ?_, ?_⟩
    · rw [finishLoading_cal]
      unfold imageOutcome
      split
      · exact imageCal_get m hid hknown
      · exact Cal.get_defaults id hid
    · rw [finishLoading_eq]
      simp only [imageOutcome]
      split <;> rfl

/-! ## The end of LOADING at DSP and WRU (R47, R141) -/

theorem levelChange_eq (now : PartTime) (c : Nat) (old new : Level) :
    levelChange now c old new
      = (if old ≠ new then [(EventKind.wearLevel, c, new.code + 256 * old.code)] else []).map
          fun r => (Block.wru, { kind := r.1, a := r.2.1, b := r.2.2, time := now }) := by
  by_cases h : new = old
  · subst h; simp [levelChange]
  · simp [levelChange, h, Ne.symm h]

theorem flatMap_ite_eq_filter_map {α β : Type} (l : List α) (p : α → Bool) (f : α → β) :
    (l.flatMap fun a => if p a then [f a] else []) = (l.filter p).map f := by
  induction l with
  | nil => rfl
  | cons a r ih => by_cases h : p a <;> simp [h, ih]

/-- All counters graded: the levels, and one WEAR_LEVEL for each that changed, in id order (R142). -/
theorem gradeAll_raising (s : State) :
    gradeAll s = (s.setWru (s.wru.gradedOn s.cal (List.range 8))).raising .wru
      (((List.range 8).filter fun c =>
          decide ((s.wru.counter c).level ≠ gradeOf s.cal c (s.wru.counter c).value)).map fun c =>
        (.wearLevel, c, (gradeOf s.cal c (s.wru.counter c).value).code + 256 * (s.wru.counter c).level.code)) := by
  rw [gradeAll_eq, ← flatMap_ite_eq_filter_map]
  simp only [levelChange_eq, State.raising, List.map_flatMap, decide_eq_true_eq]
  rfl

theorem exec_heatInit {s : State} (h : s.mail.loadEndDsp = true) :
    exec .heatInit s = .next
      { s with
        mail := { s.mail with loadEndDsp := false }
        dsp :=
          if s.dsp.heatSet then { s.dsp with heat := min s.dsp.heat s.cal.heatCap }
          else { s.dsp with heat := s.cal.heatHot, hotMark := false, heatSet := true } } := by
  by_cases hset : s.dsp.heatSet = true
  · have htaken : dspTakesLoadEnd s = clampHeat (s.setMail { s.mail with loadEndDsp := false }) :=
      (if_pos h).trans (if_pos hset)
    rw [if_pos hset]
    exact next_congr htaken
  · have htaken : dspTakesLoadEnd s = (s.setMail { s.mail with loadEndDsp := false }).setDsp
        { s.dsp with heat := s.cal.heatHot, hotMark := false, heatSet := true } := (if_pos h).trans (if_neg hset)
    rw [if_neg hset]
    exact next_congr htaken

/-- What the setting of the lamp leaves: every counter, tally and ring, the seeded status and the accumulator. -/
theorem setLamp_wru (s : State) :
    (setLamp s).wru.counters = s.wru.counters ∧ (setLamp s).wru.tally = s.wru.tally ∧ (setLamp s).wru.ring = s.wru.ring
      ∧ (setLamp s).wru.seeded = s.wru.seeded ∧ (setLamp s).wru.kmAcc = s.wru.kmAcc := by
  rw [setLamp_eq]
  dsimp only [State.setWru_wru]
  split
  · exact ⟨rfl, rfl, rfl, rfl, rfl⟩
  · cases lampPatternFor s.wru <;> exact ⟨rfl, rfl, rfl, rfl, rfl⟩

/-- The setting of the lamp changes WRU alone. -/
theorem setLamp_frame (s : State) : setLamp s = { s with wru := (setLamp s).wru } := by
  rw [setLamp_eq]
  rfl

/-- The lamp set in a state whose lamp is that of `w` follows from `w`. -/
theorem setLamp_follows_from {u : State} {w : Wru} {now : PartTime} (hpattern : u.wru.pattern = w.pattern)
    (hphase : u.wru.phase = w.phase) (hlamp : u.wru.wlamp = w.wlamp) (htimer : u.wru.lampTimer = w.lampTimer)
    (hnow : u.mdc.partTime = now) : LampFollows w (setLamp u).wru now := by
  obtain ⟨h1, h2, h3, h4, h5⟩ := setLamp_follows u
  rw [hpattern, hphase, hlamp, htimer] at h2
  rw [hpattern, hphase] at h3 h4
  rw [hpattern, hnow] at h5
  exact ⟨h1, h2, h3, h4, h5⟩

/-- Settles O5: DSP's side is an equation, WRU's that of `gradeAll_raising` with `setLamp_follows`. -/
theorem loadingEndTaken : Obligations.LoadingEndTaken := by
  refine ⟨fun s hend => exec_heatInit hend, fun s hend => ⟨_, rfl, fun hseeded => ?_, fun hseeded => ?_⟩⟩
  · simp only [wruTakesLoadEnd, hend, State.setMail_wru, hseeded, if_true]
    rfl
  · intro level
    let u := s.setMail { s.mail with loadEndWru := false }
    have htaken : wruTakesLoadEnd s = setLamp (gradeAll u) := (if_pos hend).trans (if_pos hseeded)
    obtain ⟨-, htally, hring, hseeded', hkm⟩ := setLamp_wru (gradeAll u)
    rw [htaken]
    have hgraded : (gradeAll u).wru = s.wru.gradedOn s.cal (List.range 8) := by rw [gradeAll_raising]; rfl
    refine ⟨fun c hc => ?_, ⟨?_, ?_, ?_, ?_⟩, ?_, ?_⟩
    · rw [setLamp_counter, hgraded, Wru.counter_gradedOn _ _ _ _ hc, if_pos (List.mem_range.mpr hc)]
    · rw [htally, hgraded]; rfl
    · rw [hring, hgraded]; rfl
    · rw [hseeded', hgraded]; exact hseeded
    · rw [hkm, hgraded]; rfl
    · refine setLamp_follows_from ?_ ?_ ?_ ?_ ?_
      iterate 4 rw [hgraded]; rfl
      simp [u]
    · rw [setLamp_frame, gradeAll_raising]
      rfl

end Sys2Proof.Machine
end

section
/-!
PROOFS. START and HALT (R157, R158): the START checks, the entry into ACTIVE, and the ways out of it.
-/
namespace Sys2Proof.Machine

/-! ## The START checks (R157) -/

/-- A counter's threshold is below an earlier nonzero one of the same counter (R157 check 6). -/
def Cal.ThresholdBelow (c : Cal) (k l : Nat) : Prop :=
  c.threshold k l ≠ 0 ∧ ∃ j < l, c.threshold k j ≠ 0 ∧ c.threshold k l < c.threshold k j

theorem Cal.not_thresholdBelow_zero (c : Cal) (k : Nat) : ¬c.ThresholdBelow k 0 := fun ⟨_, _, hj, _⟩ => Nat.not_lt_zero _ hj

theorem Cal.thresholdBelow_one (c : Cal) (k : Nat) :
    c.ThresholdBelow k 1 ↔ c.threshold k 1 ≠ 0 ∧ c.threshold k 1 < c.threshold k 0 := by
  constructor
  · rintro ⟨hne, j, hj, -, hlt⟩
    obtain rfl : j = 0 := by omega
    exact ⟨hne, hlt⟩
  · rintro ⟨hne, hlt⟩
    exact ⟨hne, 0, by omega, by omega, hlt⟩

theorem Cal.thresholdBelow_two (c : Cal) (k : Nat) :
    c.ThresholdBelow k 2
      ↔ c.threshold k 2 ≠ 0 ∧ (c.threshold k 2 < c.threshold k 0 ∨ c.threshold k 2 < c.threshold k 1) := by
  constructor
  · rintro ⟨hne, j, hj, -, hlt⟩
    have hcases : j = 0 ∨ j = 1 := by omega
    rcases hcases with rfl | rfl
    · exact ⟨hne, .inl hlt⟩
    · exact ⟨hne, .inr hlt⟩
  · rintro ⟨hne, hlt | hlt⟩
    · exact ⟨hne, 0, by omega, by omega, hlt⟩
    · exact ⟨hne, 1, by omega, by omega, hlt⟩

theorem thresholdFailure_one {c : Cal} {k : Nat} (h : c.ThresholdBelow k 1) :
    Cal.firstFailure.thresholdFailure c k = some (96 + 3 * k + 1) := if_pos ((c.thresholdBelow_one k).mp h)

theorem thresholdFailure_two {c : Cal} {k : Nat} (h1 : ¬c.ThresholdBelow k 1) (h2 : c.ThresholdBelow k 2) :
    Cal.firstFailure.thresholdFailure c k = some (96 + 3 * k + 2) :=
  (if_neg fun h => h1 ((c.thresholdBelow_one k).mpr h)).trans (if_pos ((c.thresholdBelow_two k).mp h2))

theorem thresholdFailure_none {c : Cal} {k : Nat} (h1 : ¬c.ThresholdBelow k 1) (h2 : ¬c.ThresholdBelow k 2) :
    Cal.firstFailure.thresholdFailure c k = none :=
  (if_neg fun h => h1 ((c.thresholdBelow_one k).mpr h)).trans (if_neg fun h => h2 ((c.thresholdBelow_two k).mpr h))

/-- The first number of a range for which a search finds something. -/
theorem findSome?_range_first {α : Type} {f : Nat → Option α} {n k : Nat} {a : α} (hk : k < n) (hf : f k = some a)
    (hfirst : ∀ j < k, f j = none) : (List.range n).findSome? f = some a := by
  induction n with
  | zero => exact absurd hk (Nat.not_lt_zero _)
  | succ n ih =>
    rw [List.range_succ, List.findSome?_append]
    rcases Nat.lt_succ_iff_lt_or_eq.mp hk with hlt | rfl
    · rw [ih hlt]; rfl
    · have hnone : (List.range k).findSome? f = none :=
        List.findSome?_eq_none_iff.mpr fun j hj => hfirst j (List.mem_range.mp hj)
      simp [hnone, hf]

/-- The five checks before the thresholds (R157). -/
structure Cal.EarlyChecks (c : Cal) : Prop where
  bias3 : ¬(c.axleCount = 2 ∧ c.bias3 ≠ 0)
  biases : ¬c.bias1 + c.bias2 + (if c.axleCount = 3 then c.bias3 else 0) ≠ 100
  hard : c.socHard < c.socLo
  low : c.socLo ≤ c.socBase
  high : c.socBase ≤ c.socHi

theorem Cal.EarlyChecks.firstFailure {c : Cal} (h : c.EarlyChecks) :
    c.firstFailure = ((List.range 8).findSome? (Cal.firstFailure.thresholdFailure c)).or
      (if c.derateLim ≤ c.derateSvc then none else some 19) := by
  unfold Cal.firstFailure
  rw [if_neg h.bias3, if_neg h.biases, if_neg (not_not.mpr h.hard), if_neg (not_not.mpr h.low), if_neg (not_not.mpr h.high),
    ite_not]
  cases (List.range 8).findSome? (Cal.firstFailure.thresholdFailure c) <;> rfl

theorem Cal.EarlyChecks.firstFailure_of_threshold {c : Cal} (h : c.EarlyChecks) {k id : Nat} (hk : k < 8)
    (hid : Cal.firstFailure.thresholdFailure c k = some id)
    (hfirst : ∀ j < k, Cal.firstFailure.thresholdFailure c j = none) : c.firstFailure = some id := by
  rw [h.firstFailure, findSome?_range_first hk hid hfirst, Option.some_or]

/-- The first threshold that is below an earlier one, in id order. -/
theorem Cal.EarlyChecks.firstFailure_of_first {c : Cal} (h : c.EarlyChecks) {k l : Nat} (hk : k < 8) (hl : l < 3)
    (hbelow : c.ThresholdBelow k l)
    (hfirst : ∀ k' < 8, ∀ l' < 3, 3 * k' + l' < 3 * k + l → ¬c.ThresholdBelow k' l') :
    c.firstFailure = some (96 + 3 * k + l) := by
  have hbefore : ∀ j < k, Cal.firstFailure.thresholdFailure c j = none := fun j hj =>
    thresholdFailure_none (hfirst j (by omega) 1 (by omega) (by omega)) (hfirst j (by omega) 2 (by omega) (by omega))
  have hcases : l = 0 ∨ l = 1 ∨ l = 2 := by omega
  rcases hcases with rfl | rfl | rfl
  · exact absurd hbelow (c.not_thresholdBelow_zero k)
  · exact h.firstFailure_of_threshold hk (thresholdFailure_one hbelow) hbefore
  · exact h.firstFailure_of_threshold hk
      (thresholdFailure_two (hfirst k hk 1 (by omega) (by omega)) hbelow) hbefore

theorem Cal.EarlyChecks.firstFailure_of_ordered {c : Cal} (h : c.EarlyChecks)
    (hordered : ∀ k < 8, ∀ l < 3, ¬c.ThresholdBelow k l) :
    c.firstFailure = if c.derateLim ≤ c.derateSvc then none else some 19 := by
  have hnone : (List.range 8).findSome? (Cal.firstFailure.thresholdFailure c) = none :=
    List.findSome?_eq_none_iff.mpr fun k hk =>
      have hk8 := List.mem_range.mp hk
      thresholdFailure_none (hordered k hk8 1 (by omega)) (hordered k hk8 2 (by omega))
  rw [h.firstFailure, hnone, Option.none_or]

/-! ## START in its three cases -/

theorem rteStart_eq (s : State) :
    rteStart s = { s with rte := match s.rte.cursor, s.rte.plan with
      | .running, some p | .holding, some p => { s.rte with look := some (lookahead s.cal s.rte p) }
      | _, _ => s.rte } := by
  unfold rteStart
  rcases hc : s.rte.cursor <;> rcases hp : s.rte.plan <;> rfl

theorem exec_start_active {s : State} {rest : List Frame} (h : Serves s ⟨0x20, []⟩ rest) (hop : s.mdc.op = .active) :
    exec .start s = .next (s.answered rest (.reply 0x20 .refusedState .active 2)) := by
  refine next_congr ((takeRequest_serves h 0x20 execStart.ready execStart.serve rfl rfl ?_).trans ?_)
  · simp [execStart.ready, hop]
  · simp only [execStart.serve, State.setLnk_mdc, hop, reply_taken]
    rfl

theorem exec_start_failing {s : State} {rest : List Frame} (h : Serves s ⟨0x20, []⟩ rest) (hop : s.mdc.op = .config)
    {detail : Nat} (hfail : s.cal.firstFailure = some detail) :
    exec .start s = .next (s.answered rest (.reply 0x20 .badCal .config detail)) := by
  refine next_congr ((takeRequest_serves h 0x20 execStart.ready execStart.serve rfl rfl ?_).trans ?_)
  · simp [execStart.ready, hfail]
  · simp only [execStart.serve, State.setLnk_mdc, State.setLnk_cal, hop, hfail, reply_taken]

theorem exec_start_passing {s : State} {rest : List Frame} (h : Serves s ⟨0x20, []⟩ rest) (hop : s.mdc.op = .config)
    (hpass : s.cal.firstFailure = none) (hdsp : s.mail.loadEndDsp = false) (hwru : s.mail.loadEndWru = false) :
    exec .start s = .next (rteStart (State.raising
      { s.answered rest (.reply 0x20 .done .active 0) with
        mdc := { s.mdc with op := .active }
        dsp :=
          { s.dsp with
            permit := .waitRelease, tpermit := false, cause := .start, lastDemand := none
            demandTimer := none, genPrev := 0 }
        env := { s.env with last := none } }
      .mdc [(.stateChange, 2, 1)])) := by
  refine next_congr ((takeRequest_serves h 0x20 execStart.ready execStart.serve rfl rfl ?_).trans ?_)
  · simp [execStart.ready, hdsp, hwru]
  · simp only [execStart.serve, State.setLnk_mdc, State.setLnk_cal, hop, hpass]
    rfl

/-- Settles O6: the checks by `Cal.EarlyChecks`, the service by its three cases. -/
theorem startServed : Obligations.StartServed := by
  refine ⟨fun c => ?_, fun s rest h => ⟨exec_start_active h, fun hop detail => exec_start_failing h hop, ?_⟩⟩
  · intro v below bias3 biases thresholds
    have hbelow : ∀ k l, below k l ↔ c.ThresholdBelow k l := fun _ _ => Iff.rfl
    refine ⟨fun h1 => if_pos h1, fun h1 h2 => (if_neg h1).trans (if_pos h2), fun h1 h2 h3 => ?_, fun h1 h2 h3 h4 => ?_,
      fun h1 h2 h3 h4 h5 => ?_, fun h1 h2 h3 h4 h5 => ?_⟩
    · exact (if_neg h1).trans ((if_neg h2).trans (if_pos (Nat.not_lt.mpr h3)))
    · exact (if_neg h1).trans ((if_neg h2).trans ((if_neg (not_not.mpr h3)).trans (if_pos (Nat.not_le.mpr h4))))
    · exact (if_neg h1).trans ((if_neg h2).trans ((if_neg (not_not.mpr h3)).trans
        ((if_neg (not_not.mpr h4)).trans (if_pos (Nat.not_le.mpr h5)))))
    · have hearly : c.EarlyChecks := ⟨h1, h2, h3, h4, h5⟩
      have hordered (h : ¬thresholds) : ∀ k < 8, ∀ l < 3, ¬c.ThresholdBelow k l := fun k hk l hl hb => h ⟨k, hk, l, hl, hb⟩
      refine ⟨fun k hk l hl hb hfirst => hearly.firstFailure_of_first hk hl hb hfirst, fun hnone hlt => ?_, fun hnone hle => ?_⟩
      · exact (hearly.firstFailure_of_ordered (hordered hnone)).trans (if_neg (Nat.not_le.mpr hlt))
      · exact (hearly.firstFailure_of_ordered (hordered hnone)).trans (if_pos hle)
  · intro hop hpass hdsp hwru
    refine (exec_start_passing h hop hpass hdsp hwru).trans ((next_congr (rteStart_eq _)).trans ?_)
    rfl

/-! ## HALT (R98, R158) -/

/-- ENG takes HALT: by the state it is in (R98). -/
theorem engHalt_eq {s halted : State}
    (h : (prune s).setEng { (prune s).eng with stateTimer := none, stopHold := none } = halted) :
    engHalt s =
      match s.eng.state with
      | .stopped | .lockout => halted
      | .cranking | .pause | .cooldown => stopEngine .halted halted
      | .warmup | .running => hotStop .haltHot halted := by
  subst h
  have hstate : (prune s).eng.state = s.eng.state := rfl
  unfold engHalt
  cases hs : s.eng.state <;> simp only [State.setEng_eng, hstate, hs]

theorem exec_halt_config {s : State} {rest : List Frame} (h : Serves s ⟨0x21, []⟩ rest) (hop : s.mdc.op = .config) :
    exec .halt s = .next (s.answered rest (.reply 0x21 .refusedState .config 1)) := by
  refine next_congr ((takeRequest_serves h 0x21 execHalt.ready execHalt.serve rfl rfl ?_).trans ?_)
  · simp [execHalt.ready, hop]
  · simp only [execHalt.serve, State.setLnk_mdc, hop, reply_taken]
    rfl

theorem exec_halt_active {s : State} {rest : List Frame} (h : Serves s ⟨0x21, []⟩ rest) (hop : s.mdc.op = .active)
    (heng : s.mail.engIn = []) (hrte : s.mail.rteIn = []) :
    exec .halt s = .next (engHalt (State.raising
      { s.answered rest (.reply 0x21 .done .config 0) with
        mdc := { s.mdc with op := .config }
        dsp := { s.dsp with permit := .off, tpermit := false, lastDemand := none, demandTimer := none, genPrev := 0 } }
      .mdc [(.stateChange, 1, 2)])) := by
  refine next_congr ((takeRequest_serves h 0x21 execHalt.ready execHalt.serve rfl rfl ?_).trans ?_)
  · simp [execHalt.ready, heng, hrte]
  · simp only [execHalt.serve, State.setLnk_mdc, hop]
    rfl

/-- Settles O7: a refusal, or the withdrawal of the permit and `engHalt_eq`. -/
theorem haltServed : Obligations.HaltServed := by
  intro s rest h
  refine ⟨exec_halt_config h, fun hop heng hrte => ?_⟩
  intro halted
  exact (exec_halt_active h hop heng hrte).trans (next_congr (engHalt_eq (halted := halted) rfl))

end Sys2Proof.Machine
end

section
/-!
PROOFS. RESTART (R161): its answer, the ends of transmission, and the moment at which it takes effect.
-/
namespace Sys2Proof.Machine

/-! ## What waits between the blocks is taken in order (log entry 7) -/

def drainHeat (s : State) : State := heatTakesNext^[s.mail.heatIn.length] s
def drainRte (s : State) : State := rteTakesNext^[s.mail.rteIn.length] s
def drainEng (s : State) : State := engTakesNext^[s.mail.engIn.length] s
def drainWru (s : State) : State := wruTakesNext^[s.mail.wruIn.length] s
def drainIncrements (s : State) : State := wruTakesNextIncrement^[s.mail.incIn.length] s
def drainDistances (s : State) : State := wruTakesNextDistance^[s.mail.kmIn.length] s

theorem takeAllWaiting_eq (s : State) :
    takeAllWaiting s = drainDistances (drainIncrements (drainWru (drainEng (drainRte (drainHeat
      (wruTakesLoadEnd (dspTakesLoadEnd s))))))) := by
  unfold takeAllWaiting
  extract_lets loaded heated routed run worn counted
  have hheated : heated = drainHeat loaded := rfl
  have hrouted : routed = drainRte heated := rfl
  have hrun : run = drainEng routed := rfl
  have hworn : worn = drainWru run := rfl
  have hcounted : counted = drainIncrements worn := rfl
  change drainDistances counted = _
  rw [hcounted, hworn, hrun, hrouted, hheated]

/-- Taking what waits in a list begins with one taking. -/
theorem iterate_length {α : Type} {f : State → State} (l : State → List α) {s : State} (hf : l (f s) = (l s).tail)
    (hne : l s ≠ []) : f^[(l s).length] s = f^[(l (f s)).length] (f s) := by
  obtain ⟨x, rest, hx⟩ := List.exists_cons_of_ne_nil hne
  rw [hf, hx]
  rfl

theorem drainHeat_nil {s : State} (h : s.mail.heatIn = []) : drainHeat s = s := by rw [drainHeat, h]; rfl
theorem drainRte_nil {s : State} (h : s.mail.rteIn = []) : drainRte s = s := by rw [drainRte, h]; rfl
theorem drainEng_nil {s : State} (h : s.mail.engIn = []) : drainEng s = s := by rw [drainEng, h]; rfl
theorem drainWru_nil {s : State} (h : s.mail.wruIn = []) : drainWru s = s := by rw [drainWru, h]; rfl
theorem drainIncrements_nil {s : State} (h : s.mail.incIn = []) : drainIncrements s = s := by rw [drainIncrements, h]; rfl

/-! ### What one taking leaves waiting -/

theorem heatTakesNext_mail (s : State) :
    (heatTakesNext s).mail.heatIn = s.mail.heatIn.tail
      ∧ (heatTakesNext s).mail.loadEndDsp = s.mail.loadEndDsp ∧ (heatTakesNext s).mail.loadEndWru = s.mail.loadEndWru := by
  unfold heatTakesNext
  split <;> rename_i h <;> simp [h]

theorem rteTakesNext_mail (s : State) :
    (rteTakesNext s).mail.rteIn = s.mail.rteIn.tail ∧ (rteTakesNext s).mail.heatIn = s.mail.heatIn
      ∧ (rteTakesNext s).mail.loadEndDsp = s.mail.loadEndDsp ∧ (rteTakesNext s).mail.loadEndWru = s.mail.loadEndWru := by
  unfold rteTakesNext
  split <;> rename_i h <;> simp [h]

theorem engTakesNext_mail (s : State) :
    (engTakesNext s).mail.engIn = s.mail.engIn.tail ∧ (engTakesNext s).mail.heatIn = s.mail.heatIn
      ∧ (engTakesNext s).mail.rteIn = s.mail.rteIn
      ∧ (engTakesNext s).mail.loadEndDsp = s.mail.loadEndDsp ∧ (engTakesNext s).mail.loadEndWru = s.mail.loadEndWru := by
  unfold engTakesNext
  split <;> rename_i h <;> simp [h]

theorem wruTakesNext_mail (s : State) :
    (wruTakesNext s).mail.wruIn = s.mail.wruIn.tail ∧ (wruTakesNext s).mail.heatIn = s.mail.heatIn
      ∧ (wruTakesNext s).mail.rteIn = s.mail.rteIn ∧ (wruTakesNext s).mail.engIn = s.mail.engIn
      ∧ (wruTakesNext s).mail.loadEndDsp = s.mail.loadEndDsp ∧ (wruTakesNext s).mail.loadEndWru = s.mail.loadEndWru := by
  unfold wruTakesNext
  split <;> rename_i h <;> simp [h]

theorem wruTakesNextIncrement_mail (s : State) :
    (wruTakesNextIncrement s).mail.incIn = s.mail.incIn.tail
      ∧ (wruTakesNextIncrement s).mail.heatIn = s.mail.heatIn ∧ (wruTakesNextIncrement s).mail.rteIn = s.mail.rteIn
      ∧ (wruTakesNextIncrement s).mail.engIn = s.mail.engIn ∧ (wruTakesNextIncrement s).mail.wruIn = s.mail.wruIn
      ∧ (wruTakesNextIncrement s).mail.loadEndDsp = s.mail.loadEndDsp
      ∧ (wruTakesNextIncrement s).mail.loadEndWru = s.mail.loadEndWru := by
  unfold wruTakesNextIncrement
  split <;> rename_i h <;> simp [h]

theorem wruTakesNextDistance_mail (s : State) :
    (wruTakesNextDistance s).mail.kmIn = s.mail.kmIn.tail
      ∧ (wruTakesNextDistance s).mail.heatIn = s.mail.heatIn ∧ (wruTakesNextDistance s).mail.rteIn = s.mail.rteIn
      ∧ (wruTakesNextDistance s).mail.engIn = s.mail.engIn ∧ (wruTakesNextDistance s).mail.wruIn = s.mail.wruIn
      ∧ (wruTakesNextDistance s).mail.incIn = s.mail.incIn ∧ (wruTakesNextDistance s).mail.loadEndDsp = s.mail.loadEndDsp
      ∧ (wruTakesNextDistance s).mail.loadEndWru = s.mail.loadEndWru := by
  unfold wruTakesNextDistance
  split <;> rename_i h <;> simp [h]

/-! ### The first to be taken -/

theorem takeAllWaiting_dspFirst (s : State) : takeAllWaiting s = takeAllWaiting (dspTakesLoadEnd s) := by
  have hend : (dspTakesLoadEnd s).mail.loadEndDsp = false := by
    unfold dspTakesLoadEnd
    split
    · dsimp only
      split <;> rfl
    · simp_all
  rw [takeAllWaiting_eq, takeAllWaiting_eq, dspTakesLoadEnd_idle hend]

theorem takeAllWaiting_wruFirst {s : State} (hd : s.mail.loadEndDsp = false) :
    takeAllWaiting s = takeAllWaiting (wruTakesLoadEnd s) := by
  have hend : (wruTakesLoadEnd s).mail.loadEndDsp = false := by
    unfold wruTakesLoadEnd
    split
    · dsimp only
      split <;> simp [hd]
    · exact hd
  rw [takeAllWaiting_eq, takeAllWaiting_eq, dspTakesLoadEnd_idle hd, dspTakesLoadEnd_idle hend,
    wruTakesLoadEnd_idle (wruTakesLoadEnd_taken s)]

/-- With the ends of LOADING taken, the lists follow. -/
theorem takeAllWaiting_loaded {s : State} (hd : s.mail.loadEndDsp = false) (hw : s.mail.loadEndWru = false) :
    takeAllWaiting s = drainDistances (drainIncrements (drainWru (drainEng (drainRte (drainHeat s))))) := by
  rw [takeAllWaiting_eq, dspTakesLoadEnd_idle hd, wruTakesLoadEnd_idle hw]

section
variable {s : State} (hd : s.mail.loadEndDsp = false) (hw : s.mail.loadEndWru = false)
include hd hw

theorem takeAllWaiting_heatFirst (hne : s.mail.heatIn ≠ []) : takeAllWaiting s = takeAllWaiting (heatTakesNext s) := by
  obtain ⟨hheat, hd', hw'⟩ := heatTakesNext_mail s
  rw [takeAllWaiting_loaded hd hw, takeAllWaiting_loaded (hd'.trans hd) (hw'.trans hw)]
  rw [drainHeat, iterate_length (fun s => s.mail.heatIn) hheat hne, ← drainHeat]

theorem takeAllWaiting_rteFirst (h1 : s.mail.heatIn = []) (hne : s.mail.rteIn ≠ []) :
    takeAllWaiting s = takeAllWaiting (rteTakesNext s) := by
  obtain ⟨hrte, h1', hd', hw'⟩ := rteTakesNext_mail s
  rw [takeAllWaiting_loaded hd hw, takeAllWaiting_loaded (hd'.trans hd) (hw'.trans hw), drainHeat_nil h1,
    drainHeat_nil (h1'.trans h1)]
  rw [drainRte, iterate_length (fun s => s.mail.rteIn) hrte hne, ← drainRte]

theorem takeAllWaiting_engFirst (h1 : s.mail.heatIn = []) (h2 : s.mail.rteIn = []) (hne : s.mail.engIn ≠ []) :
    takeAllWaiting s = takeAllWaiting (engTakesNext s) := by
  obtain ⟨heng, h1', h2', hd', hw'⟩ := engTakesNext_mail s
  rw [takeAllWaiting_loaded hd hw, takeAllWaiting_loaded (hd'.trans hd) (hw'.trans hw), drainHeat_nil h1,
    drainHeat_nil (h1'.trans h1), drainRte_nil h2, drainRte_nil (h2'.trans h2)]
  rw [drainEng, iterate_length (fun s => s.mail.engIn) heng hne, ← drainEng]

theorem takeAllWaiting_resultFirst (h1 : s.mail.heatIn = []) (h2 : s.mail.rteIn = []) (h3 : s.mail.engIn = [])
    (hne : s.mail.wruIn ≠ []) : takeAllWaiting s = takeAllWaiting (wruTakesNext s) := by
  obtain ⟨hwru, h1', h2', h3', hd', hw'⟩ := wruTakesNext_mail s
  rw [takeAllWaiting_loaded hd hw, takeAllWaiting_loaded (hd'.trans hd) (hw'.trans hw), drainHeat_nil h1,
    drainHeat_nil (h1'.trans h1), drainRte_nil h2, drainRte_nil (h2'.trans h2), drainEng_nil h3,
    drainEng_nil (h3'.trans h3)]
  rw [drainWru, iterate_length (fun s => s.mail.wruIn) hwru hne, ← drainWru]

theorem takeAllWaiting_incrementFirst (h1 : s.mail.heatIn = []) (h2 : s.mail.rteIn = []) (h3 : s.mail.engIn = [])
    (h4 : s.mail.wruIn = []) (hne : s.mail.incIn ≠ []) :
    takeAllWaiting s = takeAllWaiting (wruTakesNextIncrement s) := by
  obtain ⟨hinc, h1', h2', h3', h4', hd', hw'⟩ := wruTakesNextIncrement_mail s
  rw [takeAllWaiting_loaded hd hw, takeAllWaiting_loaded (hd'.trans hd) (hw'.trans hw), drainHeat_nil h1,
    drainHeat_nil (h1'.trans h1), drainRte_nil h2, drainRte_nil (h2'.trans h2), drainEng_nil h3,
    drainEng_nil (h3'.trans h3), drainWru_nil h4, drainWru_nil (h4'.trans h4)]
  rw [drainIncrements, iterate_length (fun s => s.mail.incIn) hinc hne, ← drainIncrements]

theorem takeAllWaiting_distanceFirst (h1 : s.mail.heatIn = []) (h2 : s.mail.rteIn = []) (h3 : s.mail.engIn = [])
    (h4 : s.mail.wruIn = []) (h5 : s.mail.incIn = []) (hne : s.mail.kmIn ≠ []) :
    takeAllWaiting s = takeAllWaiting (wruTakesNextDistance s) := by
  obtain ⟨hkm, h1', h2', h3', h4', h5', hd', hw'⟩ := wruTakesNextDistance_mail s
  rw [takeAllWaiting_loaded hd hw, takeAllWaiting_loaded (hd'.trans hd) (hw'.trans hw), drainHeat_nil h1,
    drainHeat_nil (h1'.trans h1), drainRte_nil h2, drainRte_nil (h2'.trans h2), drainEng_nil h3,
    drainEng_nil (h3'.trans h3), drainWru_nil h4, drainWru_nil (h4'.trans h4), drainIncrements_nil h5,
    drainIncrements_nil (h5'.trans h5)]
  rw [drainDistances, iterate_length (fun s => s.mail.kmIn) hkm hne, ← drainDistances]

end

/-! ## The ends of transmission (R161, R171, R172) -/

theorem exec_transmitEnd_other {s : State} {f : Staged} (ht : s.lnk.transmitting = some f) (hf : f.restartReply = false) :
    exec .transmitEnd s = .next (s.setLnk
      (if s.lnk.state = .ready then ({ s.lnk with transmitting := none } : Lnk).promote
        else { s.lnk with transmitting := none })) := by
  simp only [exec, execTransmitEnd, ht, hf]
  rfl

theorem exec_transmitEnd_restart {s : State} {f : Staged} (ht : s.lnk.transmitting = some f)
    (hf : f.restartReply = true) : exec .transmitEnd s = .next (restartEffect s) := by
  simp only [exec, execTransmitEnd, ht, hf, if_true]

/-- A RESTART has the effect that it has once a command has taken what is first to be taken. -/
theorem exec_transmitEnd_of_taken {s t : State} {f : Staged} (ht : s.lnk.transmitting = some f)
    (hf : f.restartReply = true) (hlnk : t.lnk = s.lnk) (htaken : takeAllWaiting s = takeAllWaiting t) :
    exec .transmitEnd s = exec .transmitEnd t := by
  rw [exec_transmitEnd_restart ht hf, exec_transmitEnd_restart (s := t) (by rw [hlnk]; exact ht) hf]
  simp only [restartEffect, htaken]

/-! ## The RESTART takes effect (R161) -/

/-- ENG's hot stop, counted as WRU counts an increment (R77, log entry 28). -/
theorem countHotStop_eq (s : State) :
    countHotStop s = if s.eng.state = .warmup ∨ s.eng.state = .running then wruTakesIncrement 6 1 s else s := by
  unfold countHotStop EngState.generates
  cases s.eng.state <;> rfl

theorem exec_engineIncrement_cons {s : State} {c n : Nat} {rest : List (Nat × Nat)} (h : s.mail.incIn = (c, n) :: rest) :
    exec .engineIncrement s = .next (wruTakesIncrement c n (s.setMail { s.mail with incIn := rest })) := by
  simp only [exec, execEngineIncrement, wruTakesNextIncrement, h]

theorem Wru.restarted_eq (w : Wru) :
    w.restarted = if w.pattern = .flash then { w with phase := .lit, wlamp := true, lampTimer := some 500 } else w := by
  unfold Wru.restarted
  cases hp : w.pattern <;> rfl

/-- Where nothing waits, every block takes its RESTART values and LOADING begins. -/
theorem restartEffect_idle {s : State} (h : takeAllWaiting s = s) :
    restartEffect s = enterLoading
      { lnk := s.lnk.restarted
        mdc := { s.mdc with partTime := 0, restartPending := false }
        dsp := s.dsp.restarted
        env := Env.reset
        eng := Eng.reset
        rte := s.rte.restarted
        wru := (countHotStop s).wru.restarted
        ntu := Ntu.reset
        mail := Mail.reset
        pending := s.pending } := by
  unfold restartEffect
  rw [h]
  dsimp only
  rw [countHotStop_eq]
  split <;> simp

/-- Settles O8: the answer, the ends of transmission, and what is taken before a RESTART takes effect. -/
theorem restartAndTransmitEnd : Obligations.RestartAndTransmitEnd := by
  refine ⟨fun s rest h => ?_, fun s f ht => ⟨fun hf => ?_, ?_, fun hf => ?_⟩⟩
  · exact next_congr (takeRequest_serves h 0x22 noWait execRestart.serve rfl rfl rfl)
  · refine (exec_transmitEnd_other ht hf).trans (next_congr ?_)
    have hlink : (if s.lnk.state = .ready then ({ s.lnk with transmitting := none } : Lnk).promote
        else { s.lnk with transmitting := none })
        = match s.lnk.state, s.lnk.waiting with
          | .ready, some w =>
            { s.lnk with
              transmitting := some w, txDivisor := s.lnk.divisor, waiting := none
              dropped := if w.flags.dropped = true ∧ w.newDropped = false then false else s.lnk.dropped
              checkErr := if w.flags.checkErr = true ∧ w.newCheckErr = false then false else s.lnk.checkErr }
          | _, _ => { s.lnk with transmitting := none } := by
      rcases hstate : s.lnk.state
      · rfl
      rcases hwaiting : s.lnk.waiting with - | w
      · exact (if_pos rfl).trans (Lnk.promote_busy (.inr hwaiting))
      · exact (if_pos rfl).trans (Lnk.promote_waiting rfl hwaiting)
    exact congrArg s.setLnk hlink
  · intro hf hd hw h1 h2 h3 h4 h5 h6 w base inConfig
    have hinc : s.setMail { s.mail with incIn := [] } = s := by rw [← h5]; rfl
    have hcounted : exec .engineIncrement { s with mail := { s.mail with incIn := [(6, 1)] } }
        = .next (wruTakesIncrement 6 1 s) := by
      refine (exec_engineIncrement_cons rfl).trans (next_congr (congrArg (wruTakesIncrement 6 1) ?_))
      exact hinc
    have hwear : (countHotStop s).wru = w := by
      rw [countHotStop_eq]
      simp only [w, hcounted]
      split <;> rfl
    have hbase : restartEffect s = enterLoading base := by
      rw [restartEffect_idle (takeAllWaiting_idle hd hw h1 h2 h3 h4 h5 h6), hwear, Wru.restarted_eq]
      rfl
    exact (exec_transmitEnd_restart ht hf).trans (next_congr (hbase.trans (enterLoading_eq base)))
  · intro first
    have hfirst {c : Instr} {u : State} (hc : exec c s = .next u) (hlnk : u.lnk = s.lnk)
        (htaken : takeAllWaiting s = takeAllWaiting u) : first c := by
      intro t he
      rw [hc] at he
      cases he
      exact exec_transmitEnd_of_taken ht hf hlnk htaken
    have hkept {c : Instr} (hl : changesLnk c = false) (hr : isRequest c = false) {u : State}
        (hc : exec c s = .next u) (htaken : takeAllWaiting s = takeAllWaiting u) : first c :=
      hfirst hc (lnk_kept c hl hr s u hc) htaken
    refine ⟨fun _ => hkept rfl rfl rfl (takeAllWaiting_dspFirst s),
      fun hd _ => hkept rfl rfl rfl (takeAllWaiting_wruFirst hd), fun hd hw => ⟨?_, ?_, ?_, ?_, ?_, ?_⟩⟩
    · exact fun hne => hkept rfl rfl rfl (takeAllWaiting_heatFirst hd hw hne)
    · exact fun h1 hne => hkept rfl rfl rfl (takeAllWaiting_rteFirst hd hw h1 hne)
    · exact fun h1 h2 hne => hkept rfl rfl rfl (takeAllWaiting_engFirst hd hw h1 h2 hne)
    · exact fun h1 h2 h3 hne => hkept rfl rfl rfl (takeAllWaiting_resultFirst hd hw h1 h2 h3 hne)
    · exact fun h1 h2 h3 h4 hne => hkept rfl rfl rfl (takeAllWaiting_incrementFirst hd hw h1 h2 h3 h4 hne)
    · exact fun h1 h2 h3 h4 h5 hne => hkept rfl rfl rfl (takeAllWaiting_distanceFirst hd hw h1 h2 h3 h4 h5 hne)

end Sys2Proof.Machine
end

section
/-!
PROOFS. The calibration parameters (Table 7-4), and the requests that write and read them (R159, R160).
-/
namespace Sys2Proof.Machine

/-! ## Table 7-4 -/

/-- Table 7-4: each known id with its range and its default. -/
def calTable : List (Nat × Int × Int × Int) :=
  let rates : List (Nat × Int × Int × Int) := (List.range 25).map fun k => (64 + k, -500, 500, 5 * (k : Int) - 45)
  let thresholds : List (Nat × Int × Int × Int) := (List.range 24).map fun k => (96 + k, 0, 4294967295, 0)
  calScalarRows ++ rates ++ thresholds

theorem calRow_of_calTable : ∀ r ∈ calTable, r.1 < 128 ∧ calRow r.1 = some r.2 := by decide

theorem calKnown_iff (id : Nat) : calKnown id = true ↔ ∃ r ∈ calTable, r.1 = id := by
  constructor
  · intro h
    have hlt := calKnown_lt h
    revert h
    revert id
    decide
  · rintro ⟨r, hr, rfl⟩
    rw [calKnown, (calRow_of_calTable r hr).2]
    rfl

theorem calTable_row {r : Nat × Int × Int × Int} (hr : r ∈ calTable) :
    calDefault r.1 = r.2.2.2 ∧ Cal.defaults.get r.1 = r.2.2.2 ∧ ∀ v : Int, calClamp r.1 v = max r.2.1 (min v r.2.2.1) := by
  obtain ⟨hlt, hrow⟩ := calRow_of_calTable r hr
  have hdefault : calDefault r.1 = r.2.2.2 := by simp only [calDefault, hrow]
  exact ⟨hdefault, (Cal.get_defaults _ hlt).trans hdefault, fun v => by simp only [calClamp, hrow, clampInt]⟩

theorem Cal.get_set (c : Cal) {id : Nat} (hid : id < 128) (v : Int) (k : Nat) :
    (c.set id v).get k = if k = id then v else c.get k := by
  by_cases h : k = id
  · subst h
    rw [if_pos rfl, Cal.get_set_same _ _ _ hid]
  · rw [if_neg h, Cal.get_set_other _ _ _ _ h]

/-! ## A level set, and the lamp after it (R142, R143) -/

theorem setLevel_raising (c : Nat) (l : Level) (s : State) (hc : c < 8) :
    setLevel c l s = (s.setWru (s.wru.setCounter c { s.wru.counter c with level := l })).raising .wru
      (if l = (s.wru.counter c).level then [] else [(.wearLevel, c, l.code + 256 * (s.wru.counter c).level.code)]) := by
  rw [setLevel_eq c l s hc, levelChange_eq]
  by_cases h : l = (s.wru.counter c).level
  · rw [if_neg (not_not.mpr h.symm), if_pos h]
    rfl
  · rw [if_pos (Ne.symm h), if_neg h]
    rfl

theorem regrade_raising {c : Nat} (hc : c < 8) (s : State) :
    regrade c s =
      (s.setWru (s.wru.setCounter c
        { s.wru.counter c with level := gradeOf s.cal c (s.wru.counter c).value })).raising .wru
        (if gradeOf s.cal c (s.wru.counter c).value = (s.wru.counter c).level then []
        else [(.wearLevel, c,
          (gradeOf s.cal c (s.wru.counter c).value).code + 256 * (s.wru.counter c).level.code)]) :=
  setLevel_raising c _ s hc

/-! ## CAL_WRITE (R159) -/

theorem lengthOk_calWrite {p : List Byte} (hp : p.length = 5) : lengthOk ⟨0x30, p⟩ = true := by
  simp [lengthOk, requestLength, hp]

/-- What a CAL_WRITE of each id waits for (R48, R155, R159; log entry 22). -/
theorem calWrite_ready_of {f : Frame} {s : State}
    (hheat : byteAt f.payload 0 = 26 ∨ byteAt f.payload 0 = 27 → s.mail.heatIn = [])
    (hdsp : byteAt f.payload 0 = 27 → s.mail.loadEndDsp = false)
    (hwru : 96 ≤ byteAt f.payload 0 → byteAt f.payload 0 ≤ 119 → s.mail.loadEndWru = false)
    (haxles : byteAt f.payload 0 = 28 → s.mail.wruIn = []) : execCalWrite.ready f s = true := by
  unfold execCalWrite.ready
  dsimp only
  rw [Bool.or_eq_true]
  right
  simp only [Bool.and_eq_true, Bool.or_eq_true, bne_iff_ne, List.isEmpty_iff, Bool.not_eq_true', Bool.and_eq_false_iff,
    decide_eq_false_iff_not]
  refine ⟨⟨⟨?_, ?_⟩, ?_⟩, ?_⟩
  · by_cases h : byteAt f.payload 0 = 26 ∨ byteAt f.payload 0 = 27
    · exact .inl (hheat h)
    · exact .inr (not_or.mp h)
  · by_cases h : byteAt f.payload 0 = 27
    · exact .inl (hdsp h)
    · exact .inr h
  · by_cases hlow : 96 ≤ byteAt f.payload 0
    · by_cases hhigh : byteAt f.payload 0 ≤ 119
      · exact .inl (hwru hlow hhigh)
      · exact .inr (.inr hhigh)
    · exact .inr (.inl hlow)
  · by_cases h : byteAt f.payload 0 = 28
    · exact .inl (haxles h)
    · exact .inr h

/-- The known ids from 96 on are those of the wear thresholds. -/
theorem calKnown_threshold {id : Nat} (hknown : calKnown id = true) (hlow : 96 ≤ id) : id ≤ 119 := by
  have hall : ∀ id < 128, calKnown id = true → 96 ≤ id → id ≤ 119 := by decide
  exact hall id (calKnown_lt hknown) hknown hlow

theorem calKnown_of_threshold {id : Nat} (hlow : 96 ≤ id) (hhigh : id ≤ 119) : calKnown id = true := by
  have hrow : calRow id = some (0, 4294967295, 0) := (if_neg (by omega)).trans (if_pos ⟨hlow, hhigh⟩)
  rw [calKnown, hrow]
  rfl

section
variable {s : State} {p : List Byte} {rest : List Frame} (h : Serves s ⟨0x30, p⟩ rest) (hp : p.length = 5)
include h hp

theorem exec_calWrite_active (hop : s.mdc.op = .active) :
    exec .calWrite s = .next (s.answered rest (.reply 0x30 .refusedState .active 2)) := by
  refine next_congr ((takeRequest_serves h 0x30 execCalWrite.ready execCalWrite.serve rfl (lengthOk_calWrite hp) ?_).trans ?_)
  · simp [execCalWrite.ready, hop]
  · simp only [execCalWrite.serve, State.setLnk_mdc, hop, reply_taken]
    rfl

theorem exec_calWrite_unknown (hop : s.mdc.op = .config) (hid : calKnown (byteAt p 0) = false) :
    exec .calWrite s = .next (s.answered rest (.reply 0x30 .badValue .config (byteAt p 0))) := by
  have hne (id : Nat) (hknown : calKnown id = true) : byteAt p 0 ≠ id := fun he => by
    rw [he, hknown] at hid
    cases hid
  refine next_congr ((takeRequest_serves h 0x30 execCalWrite.ready execCalWrite.serve rfl (lengthOk_calWrite hp) ?_).trans ?_)
  · refine calWrite_ready_of ?_ ?_ ?_ ?_
    · rintro (he | he)
      · exact absurd he (hne 26 (by decide))
      · exact absurd he (hne 27 (by decide))
    · exact fun he => absurd he (hne 27 (by decide))
    · exact fun hlow hhigh => absurd rfl (hne _ (calKnown_of_threshold hlow hhigh))
    · exact fun he => absurd he (hne 28 (by decide))
  · simp only [execCalWrite.serve, State.setLnk_mdc, hop, hid, reply_taken]
    rfl

/-- A known id is stored clamped, and the write has its effect (R159). -/
theorem exec_calWrite_known (hop : s.mdc.op = .config) (hid : calKnown (byteAt p 0) = true)
    (hready : execCalWrite.ready ⟨0x30, p⟩ s = true) :
    let value := calValue (byteAt p 0) (u32At p 1)
    let stored := calClamp (byteAt p 0) value
    exec .calWrite s = .next (answer (.reply 0x30 .done .config (if stored = value then 0 else 1))
      (calWriteEffect (byteAt p 0)
        { s with
          lnk := { s.lnk with intake := rest }
          mdc := { s.mdc with cal := s.cal.set (byteAt p 0) stored } })) := by
  refine next_congr ((takeRequest_serves h 0x30 execCalWrite.ready execCalWrite.serve rfl (lengthOk_calWrite hp) hready).trans ?_)
  simp only [execCalWrite.serve, State.setLnk_mdc, hop, hid, if_true, reply, calWriteEffect_leaves, State.setMdc_mdc]
  rfl

end

/-! ## What a write does at once (R48, R141) -/

theorem calWriteEffect_capacity {id : Nat} (hid : id = 27) (s : State) : calWriteEffect id s = clampHeat s := if_pos hid

theorem calWriteEffect_threshold {id : Nat} (hlow : 96 ≤ id) (hhigh : id ≤ 119) (s : State) :
    calWriteEffect id s = gradeThreshold id s := (if_neg (by omega)).trans (if_pos ⟨hlow, hhigh⟩)

theorem calWriteEffect_other {id : Nat} (hid : id ≠ 27) (hlow : id < 96) (s : State) : calWriteEffect id s = s :=
  (if_neg hid).trans (if_neg (by omega))

theorem gradeThreshold_unseeded {s : State} (hs : s.wru.seeded = false) (id : Nat) : gradeThreshold id s = s := by
  simp [gradeThreshold, hs]

theorem gradeThreshold_seeded {s : State} (hs : s.wru.seeded = true) (id : Nat) :
    gradeThreshold id s = setLamp (regrade ((id - 96) / 3) s) := if_pos hs

/-- The counter of a threshold graded at a seeded WRU: its level, one WEAR_LEVEL where it changed, and the lamp (R141 to R143). -/
theorem gradeThreshold_graded {s : State} (hs : s.wru.seeded = true) {id : Nat} (hid : id ≤ 119) :
    let c := (id - 96) / 3
    let k := s.wru.counter c
    let level := gradeOf s.cal c k.value
    let t := gradeThreshold id s
    (∀ d < 8, t.wru.counter d = if d = c then { k with level } else s.wru.counter d)
      ∧ (t.wru.tally = s.wru.tally ∧ t.wru.ring = s.wru.ring ∧ t.wru.seeded = true ∧ t.wru.kmAcc = s.wru.kmAcc)
      ∧ LampFollows s.wru t.wru s.mdc.partTime
      ∧ t = State.raising { s with wru := t.wru } .wru
          (if level = k.level then [] else [(.wearLevel, c, level.code + 256 * k.level.code)]) := by
  intro c k level t
  have hc : c < 8 := by simp only [c]; omega
  have hgraded : regrade c s = (s.setWru (s.wru.setCounter c { k with level })).raising .wru
      (if level = k.level then [] else [(.wearLevel, c, level.code + 256 * k.level.code)]) := regrade_raising hc s
  have ht : t = setLamp (regrade c s) := gradeThreshold_seeded hs id
  have hwru : (regrade c s).wru = s.wru.setCounter c { k with level } := by rw [hgraded]; rfl
  obtain ⟨-, htally, hring, hseeded, hkm⟩ := setLamp_wru (regrade c s)
  rw [ht]
  refine ⟨fun d _ => ?_, ⟨?_, ?_, ?_, ?_⟩, ?_, ?_⟩
  · rw [setLamp_counter, hwru, Wru.counter_setCounter _ _ _ _ hc]
  · rw [htally, hwru]; rfl
  · rw [hring, hwru]; rfl
  · rw [hseeded, hwru]; exact hs
  · rw [hkm, hwru]; rfl
  · refine setLamp_follows_from ?_ ?_ ?_ ?_ ?_
    iterate 4 rw [hwru]; rfl
    simp
  · rw [setLamp_frame, hgraded]
    rfl

theorem u32At_eq (p : List Byte) (k : Nat) :
    u32At p k = byteAt p k * 16777216 + byteAt p (k + 1) * 65536 + byteAt p (k + 2) * 256 + byteAt p (k + 3) := by
  simp only [u32At, u16At, Nat.add_assoc, Nat.reduceAdd]
  omega

/-! ## CAL_READ (R160) -/

theorem exec_calRead {s : State} {b : Byte} {rest : List Frame} (h : Serves s ⟨0x31, [b]⟩ rest) :
    exec .calRead s = .next (s.answered rest
      (if calKnown b.toNat then .report 0x31 b (be32s (s.cal.get b.toNat))
      else .reply 0x31 .badValue s.mdc.op b.toNat)) := by
  have hb : byteAt [b] 0 = b.toNat := rfl
  have hbyte : byte b.toNat = b := by simp [byte]
  refine next_congr ((takeRequest_serves h 0x31 noWait execCalRead.serve rfl rfl rfl).trans ?_)
  unfold execCalRead.serve
  dsimp only
  rw [hb]
  by_cases hknown : calKnown b.toNat = true
  · rw [if_pos hknown, if_pos hknown, hbyte]
    rfl
  · rw [if_neg hknown, if_neg hknown]
    rfl

theorem Cal.names_read (c : Cal) :
    ∀ r ∈
      [(c.accelDb, 0), (c.brakeDb, 1), (c.motPmax, 2), (c.motSlope, 3), (c.regenPmax, 4), (c.regenSlope, 5),
        (c.vRegenMin, 6), (c.brakeSlope, 7), (c.coastP, 8), (c.vCoastMin, 9), (c.kSoc, 10), (c.genPmax, 11),
        (c.genSlewUp, 12), (c.pWarm, 13), (c.demandTimeout, 14), (c.fbDis, 16), (c.fbChg, 17), (c.derateSvc, 18),
        (c.derateLim, 19), (c.packWh, 20), (c.resFitted, 24), (c.resPmax, 25), (c.resCool, 26), (c.resCapKj, 27),
        (c.axleCount, 28), (c.bias1, 29), (c.bias2, 30), (c.bias3, 31), (c.hystOn, 32), (c.hystOff, 33),
        (c.socHard, 34), (c.crankTimeout, 35), (c.crankPause, 36), (c.warmTime, 37), (c.minRun, 38), (c.stopHoldMs, 39),
        (c.cooldownMs, 40), (c.startWindow, 41), (c.startBudget, 42), (c.minRunDist, 43), (c.prestopDist, 44),
        (c.socBase, 48), (c.socLo, 49), (c.socHi, 50), (c.lookaheadN, 51), (c.noticeDelay, 56)],
      r.1 = (c.get r.2).toNat := by
  simp only [List.forall_mem_cons, List.not_mem_nil, false_imp_iff, implies_true, and_true]
  repeat' constructor

/-- Settles O9: Table 7-4 by `calKnown_iff` and `calTable_row`, the writes by what `calWriteEffect` does at once. -/
theorem calRequestsServed : Obligations.CalRequestsServed := by
  refine ⟨?_, fun c => ⟨fun id hid v k => c.get_set hid v k, c.names_read, rfl, fun _ _ => rfl⟩, ?_, ?_⟩
  · intro scalars rates thresholds table
    exact ⟨calKnown_iff, fun r hr => calTable_row hr, fun id raw _ => calValue_eq id raw⟩
  · intro s p rest h hp b id value
    refine ⟨exec_calWrite_active h hp, exec_calWrite_unknown h hp, fun hop hid h1 h2 h3 h4 => ?_⟩
    intro cal stored
    have hvalue : calValue (byteAt p 0) (u32At p 1) = value := congrArg (calValue id) (u32At_eq p 1)
    let a : Answer := .reply 0x30 .done .config (if calClamp id value = value then 0 else 1)
    let u : State := { s with lnk := { s.lnk with intake := rest }, mdc := { s.mdc with cal } }
    have hrun : exec .calWrite s = .next (answer a (calWriteEffect id u)) := by
      have hknown := exec_calWrite_known h hp hop hid (calWrite_ready_of h1 h2 (fun hlow _ => h3 hlow) h4)
      rw [hvalue] at hknown
      exact hknown
    refine ⟨_, hrun, fun h27 => ?_, fun hlow h27 => ?_, fun hlow hs => ?_, fun hlow hs => ?_⟩
    · rw [calWriteEffect_capacity h27]
      rfl
    · rw [calWriteEffect_other h27 hlow]
      rfl
    · rw [calWriteEffect_threshold hlow (calKnown_threshold hid hlow), gradeThreshold_unseeded (s := u) hs]
      rfl
    · intro c k level
      have hhigh := calKnown_threshold hid hlow
      obtain ⟨hcounters, hrest, hlamp, hframe⟩ := gradeThreshold_graded (s := u) hs hhigh
      rw [calWriteEffect_threshold hlow hhigh]
      refine ⟨hcounters, hrest, hlamp, ?_⟩
      have hanswered := congrArg (answer a) hframe
      exact hanswered
  · intro s b rest h
    exact exec_calRead h

end Sys2Proof.Machine
end

section
/-!
PROOFS. The Wear Unit's counters (R130 to R134, R139, R142, R143): what each feeding does to a counter, its level, its tally and the
events raised, and the lamp after it.
-/
namespace Sys2Proof.Machine

/-! ## One counter -/

/-- The event of a level that changes (R142). -/
def levelEvent (c : Nat) (old new : Level) : List (EventKind × Nat × Nat) :=
  if new = old then [] else [(.wearLevel, c, new.code + 256 * old.code)]

/-- The level a counter has once its value is `value`: graded where that is a change and WRU is SEEDED (R139). -/
def Counter.levelAt (k : Counter) (cal : Cal) (seeded : Bool) (c value : Nat) : Level :=
  if seeded = true ∧ value ≠ k.value then gradeOf cal c value else k.level

/-- A counter with an increment entered into its residue (R133, R134). -/
def Counter.fed (k : Counter) (cal : Cal) (seeded : Bool) (c unit inc : Nat) : Counter :=
  if k.saturated then k
  else
    { value := min 4294967295 (k.value + (k.residue + inc) / unit)
      residue := (k.residue + inc) % unit
      saturated := decide (4294967295 < k.value + (k.residue + inc) / unit)
      level := k.levelAt cal seeded c (min 4294967295 (k.value + (k.residue + inc) / unit)) }

theorem Counter.fed_saturated {k : Counter} (h : k.saturated = true) (cal : Cal) (seeded : Bool) (c unit inc : Nat) :
    k.fed cal seeded c unit inc = k := if_pos h

/-- A counter that takes nothing stays as it is. -/
theorem Counter.fed_zero {k : Counter} {unit : Nat} (hr : k.residue < unit) (hv : k.value ≤ 4294967295) (cal : Cal)
    (seeded : Bool) (c : Nat) : k.fed cal seeded c unit 0 = k := by
  by_cases hs : k.saturated = true
  · exact Counter.fed_saturated hs cal seeded c unit 0
  · have hdiv : (k.residue + 0) / unit = 0 := Nat.div_eq_of_lt hr
    have hmod : (k.residue + 0) % unit = k.residue := Nat.mod_eq_of_lt hr
    have hvalue : min 4294967295 (k.value + 0) = k.value := Nat.min_eq_right hv
    have hmark : decide (4294967295 < k.value + 0) = k.saturated := by
      rw [Bool.not_eq_true] at hs
      rw [hs]
      exact decide_eq_false (Nat.not_lt.mpr hv)
    have hlevel : k.levelAt cal seeded c k.value = k.level := if_neg fun h => h.2 rfl
    rw [Counter.fed, if_neg hs, hdiv, hmod, hvalue, hmark, hlevel]

theorem Counter.value_le_fed {k : Counter} (hv : k.value ≤ 4294967295) (cal : Cal) (seeded : Bool) (c unit inc : Nat) :
    k.value ≤ (k.fed cal seeded c unit inc).value := by
  unfold Counter.fed
  split
  · exact Nat.le_refl _
  · exact Nat.le_min.mpr ⟨hv, Nat.le_add_right _ _⟩

/-! ## A counter put in WRU -/

theorem putLevel_eq {s : State} {c : Nat} {k : Counter} (hk : k.level = (s.wru.counter c).level) :
    putLevel s c k = (s.wru.counter c).levelAt s.cal s.wru.seeded c k.value := by
  unfold putLevel Counter.levelAt
  rw [hk]
  exact if_congr And.comm rfl rfl

/-- A new counter value sets that counter, feeds its tally, and raises the change of its level. -/
theorem putCounter_eq {c : Nat} (hc : c < 8) (k : Counter) (units : Nat) (s : State) :
    putCounter c k units s =
      (s.setWru ((s.wru.setCounter c { k with level := putLevel s c k }).addTally c units)).raising .wru
        (levelEvent c k.level (putLevel s c k)) := by
  have hnone {u : State} (hu : u = s.setWru ((s.wru.setCounter c k).addTally c units))
      (hl : putLevel s c k = k.level) :
      u = (s.setWru ((s.wru.setCounter c { k with level := putLevel s c k }).addTally c units)).raising .wru
        (levelEvent c k.level (putLevel s c k)) := by
    rw [hl, levelEvent, if_pos rfl, State.raising_nil, hu]
  unfold putCounter
  dsimp only
  by_cases hvalue : k.value = (s.wru.counter c).value
  · rw [if_pos hvalue]
    exact hnone rfl (putLevel_of_value_eq hvalue)
  rw [if_neg hvalue, regradeSeeded]
  cases hs : s.wru.seeded with
  | false =>
    rw [if_neg (by simp [Wru.addTally, Wru.setCounter, hs])]
    exact hnone rfl (putLevel_of_unseeded c k hs)
  | true =>
    have hcounter : ((s.wru.setCounter c k).addTally c units).counter c = k := by
      rw [Wru.counter_addTally, Wru.counter_setCounter _ _ _ _ hc, if_pos rfl]
    rw [if_pos (by simpa [Wru.addTally, Wru.setCounter] using hs), regrade_raising hc, State.setWru_wru, hcounter,
      putLevel_of_value_ne hvalue hs]
    have hset : ((s.wru.setCounter c k).addTally c units).setCounter c { k with level := gradeOf s.cal c k.value }
        = (s.wru.setCounter c { k with level := gradeOf s.cal c k.value }).addTally c units :=
      congrArg (·.addTally c units) (Wru.setCounter_setCounter s.wru c k _)
    rw [State.setWru_setWru, State.setWru_cal, hset]
    rfl

/-- WRU with an increment entered into a counter's residue, its carried units in the tally (R133, R134, R146). -/
def Wru.fed (w : Wru) (cal : Cal) (c unit inc : Nat) : Wru :=
  if (w.counter c).saturated then w
  else
    (w.setCounter c ((w.counter c).fed cal w.seeded c unit inc)).addTally c
      (((w.counter c).fed cal w.seeded c unit inc).value - (w.counter c).value)

theorem feedResidue_eq {c : Nat} (hc : c < 8) (unit inc : Nat) (s : State) :
    feedResidue c unit inc s = (s.setWru (s.wru.fed s.cal c unit inc)).raising .wru
      (levelEvent c (s.wru.counter c).level ((s.wru.counter c).fed s.cal s.wru.seeded c unit inc).level) := by
  unfold feedResidue
  dsimp only
  by_cases hs : (s.wru.counter c).saturated = true
  · rw [if_pos hs, Counter.fed_saturated hs, levelEvent, if_pos rfl, State.raising_nil, Wru.fed, if_pos hs]
    rfl
  · rw [if_neg hs, Counter.addUnits_eq, Wru.fed, if_neg hs, Counter.fed, if_neg hs]
    rw [Bool.not_eq_true] at hs
    rw [hs, Bool.false_or]
    rw [putCounter_eq hc, putLevel_eq (by rfl)]

/-! ## A list of increments -/

theorem Wru.fed_seeded (w : Wru) (cal : Cal) (c unit inc : Nat) : (w.fed cal c unit inc).seeded = w.seeded := by
  unfold Wru.fed
  split <;> rfl

theorem Wru.counter_fed (w : Wru) (cal : Cal) {c : Nat} (hc : c < 8) (unit inc d : Nat) :
    (w.fed cal c unit inc).counter d = if d = c then (w.counter c).fed cal w.seeded c unit inc else w.counter d := by
  unfold Wru.fed
  by_cases hs : (w.counter c).saturated = true
  · rw [if_pos hs, Counter.fed_saturated hs]
    split
    · subst d; rfl
    · rfl
  · rw [if_neg hs, Wru.counter_addTally, Wru.counter_setCounter _ _ _ _ hc]

theorem Wru.kmTally_addTally (w : Wru) {c d : Nat} (hd : d < 4) (units : Nat) :
    (w.addTally c units).kmTally d = if d = c then min 65535 (w.kmTally c + units) else w.kmTally d := by
  unfold Wru.addTally Wru.kmTally
  by_cases h : d = c
  · subst h; simp [hd]
  · simp [h, Ne.symm h]

theorem Wru.kmTally_fed (w : Wru) (cal : Cal) (c unit inc : Nat) {d : Nat} (hd : d < 4) :
    (w.fed cal c unit inc).kmTally d =
      if d = c ∧ (w.counter c).saturated = false then
        min 65535 (w.kmTally c + (((w.counter c).fed cal w.seeded c unit inc).value - (w.counter c).value))
      else w.kmTally d := by
  unfold Wru.fed
  by_cases hs : (w.counter c).saturated = true
  · rw [if_pos hs, if_neg (by simp [hs])]
  · rw [if_neg hs, Wru.kmTally_addTally _ hd]
    simp only [hs, and_true]
    rfl

/-- WRU with a list of increments entered: counter, carry unit and increment. -/
def Wru.fedAll (w : Wru) (cal : Cal) (l : List (Nat × Nat × Nat)) : Wru :=
  l.foldl (fun w i => w.fed cal i.1 i.2.1 i.2.2) w

theorem Wru.fedAll_cons (w : Wru) (cal : Cal) (i : Nat × Nat × Nat) (l : List (Nat × Nat × Nat)) :
    w.fedAll cal (i :: l) = (w.fed cal i.1 i.2.1 i.2.2).fedAll cal l := rfl

/-- Increments change counters and tallies, and nothing else of WRU. -/
theorem Wru.fedAll_rest (w : Wru) (cal : Cal) (l : List (Nat × Nat × Nat)) :
    w.fedAll cal l = { w with counters := (w.fedAll cal l).counters, tally := (w.fedAll cal l).tally } := by
  induction l generalizing w with
  | nil => rfl
  | cons i rest ih =>
    rw [Wru.fedAll_cons, ih]
    unfold Wru.fed
    split <;> rfl

/-- The increment that a list has for a counter is the one that the counter takes. -/
theorem Wru.counter_fedAll (cal : Cal) {l : List (Nat × Nat × Nat)} (hl : ∀ i ∈ l, i.1 < 8) (hn : (l.map Prod.fst).Nodup)
    (w : Wru) (d : Nat) :
    (w.fedAll cal l).counter d =
      (l.lookup d).elim (w.counter d) fun i => (w.counter d).fed cal w.seeded d i.1 i.2 := by
  induction l generalizing w with
  | nil => rfl
  | cons i rest ih =>
    obtain ⟨hi, hrest⟩ := List.forall_mem_cons.mp hl
    obtain ⟨hnot, hn'⟩ := List.nodup_cons.mp hn
    obtain ⟨c, unit, inc⟩ := i
    rw [Wru.fedAll_cons, ih hrest hn', Wru.fed_seeded, Wru.counter_fed _ _ hi, List.lookup_cons]
    by_cases hd : d = c
    · subst hd
      have hlookup : rest.lookup d = none := by
        rw [List.lookup_eq_none_iff]
        intro p hp
        have hne : d ≠ p.1 := fun he => hnot (List.mem_map.mpr ⟨p, hp, he.symm⟩)
        simp [hne]
      simp [hlookup]
    · have hbeq : (d == c) = false := by simp [hd]
      rw [if_neg hd, hbeq]

theorem Wru.kmTally_fedAll (cal : Cal) {l : List (Nat × Nat × Nat)} (hl : ∀ i ∈ l, i.1 < 8) (hn : (l.map Prod.fst).Nodup)
    (w : Wru) {d : Nat} (hd : d < 4) :
    (w.fedAll cal l).kmTally d =
      (l.lookup d).elim (w.kmTally d) fun i =>
        if (w.counter d).saturated = false then
          min 65535 (w.kmTally d + (((w.counter d).fed cal w.seeded d i.1 i.2).value - (w.counter d).value))
        else w.kmTally d := by
  induction l generalizing w with
  | nil => rfl
  | cons i rest ih =>
    obtain ⟨hi, hrest⟩ := List.forall_mem_cons.mp hl
    obtain ⟨hnot, hn'⟩ := List.nodup_cons.mp hn
    obtain ⟨c, unit, inc⟩ := i
    rw [Wru.fedAll_cons, ih hrest hn', Wru.fed_seeded, Wru.counter_fed _ _ hi, Wru.kmTally_fed _ _ _ _ _ hd, List.lookup_cons]
    by_cases hdc : d = c
    · subst hdc
      have hlookup : rest.lookup d = none := by
        rw [List.lookup_eq_none_iff]
        intro p hp
        have hne : d ≠ p.1 := fun he => hnot (List.mem_map.mpr ⟨p, hp, he.symm⟩)
        simp [hne]
      simp [hlookup]
    · have hbeq : (d == c) = false := by simp [hdc]
      rw [if_neg hdc, if_neg (fun h => hdc h.1), hbeq]

/-- The events that a list of increments raises. -/
def Wru.feedEvents (w : Wru) (cal : Cal) (l : List (Nat × Nat × Nat)) : List (EventKind × Nat × Nat) :=
  l.flatMap fun i => levelEvent i.1 (w.counter i.1).level ((w.counter i.1).fed cal w.seeded i.1 i.2.1 i.2.2).level

theorem foldl_feedResidue {l : List (Nat × Nat × Nat)} (hl : ∀ i ∈ l, i.1 < 8) (hn : (l.map Prod.fst).Nodup) (s : State) :
    l.foldl (fun s i => feedResidue i.1 i.2.1 i.2.2 s) s
      = (s.setWru (s.wru.fedAll s.cal l)).raising .wru (s.wru.feedEvents s.cal l) := by
  induction l generalizing s with
  | nil => exact (State.raising_nil s .wru).symm
  | cons i rest ih =>
    obtain ⟨hi, hrest⟩ := List.forall_mem_cons.mp hl
    obtain ⟨hnot, hn'⟩ := List.nodup_cons.mp hn
    have hothers : (s.wru.fed s.cal i.1 i.2.1 i.2.2).feedEvents s.cal rest = s.wru.feedEvents s.cal rest := by
      unfold Wru.feedEvents
      refine List.flatMap_congr fun j hj => ?_
      have hne : j.1 ≠ i.1 := fun he => hnot (he ▸ List.mem_map_of_mem hj)
      rw [Wru.counter_fed _ _ hi, if_neg hne, Wru.fed_seeded]
    rw [List.foldl_cons, ih hrest hn', feedResidue_eq hi]
    have hfed : ((s.setWru (s.wru.fed s.cal i.1 i.2.1 i.2.2)).raising .wru
        (levelEvent i.1 (s.wru.counter i.1).level
          ((s.wru.counter i.1).fed s.cal s.wru.seeded i.1 i.2.1 i.2.2).level)).wru
        = s.wru.fed s.cal i.1 i.2.1 i.2.2 := rfl
    have hcal (l : List (EventKind × Nat × Nat)) (w : Wru) : ((s.setWru w).raising .wru l).cal = s.cal := rfl
    rw [hfed, hcal, hothers]
    have hraised (l m : List (EventKind × Nat × Nat)) (v w : Wru) :
        ((((s.setWru v).raising .wru l).setWru w).raising .wru m) = (s.setWru w).raising .wru (l ++ m) :=
      State.raising_raising (s.setWru w) .wru l m
    rw [hraised]
    rfl

end Sys2Proof.Machine
end

section
/-!
PROOFS. WRU takes a result, an increment and a distance; the lamp timer; and the seeding and service of counters (R130 to R138,
R142 to R146).
-/
namespace Sys2Proof.Machine

/-! ## A result (R130, R131) -/

/-- The increment that a result has for a counter (R131); 0 for one it has none for. -/
def resultIncrement (cal : Cal) (eng : EngState) (x : ResultRecord) (c : Nat) : Nat :=
  if c = 0 then x.shares.axle1.toNat * x.dt
  else if c = 1 then x.shares.axle2.toNat * x.dt
  else if c = 2 then (if cal.axleCount = 3 then x.shares.axle3.toNat * x.dt else 0)
  else if c = 3 then x.shares.batt.natAbs * x.dt * x.w / 256
  else if c = 5 then (if eng.counts then x.dt else 0)
  else if c = 7 then x.shares.res.toNat * x.dt
  else 0

theorem EngState.counts_iff (e : EngState) : e.counts = true ↔ e = .warmup ∨ e = .running ∨ e = .cooldown := by
  cases e <;> simp [EngState.counts]

/-- A result's increments go to different counters. -/
theorem resultIncrements_nodup (cal : Cal) (eng : EngState) (x : ResultRecord) :
    ((resultIncrements cal eng x).map Prod.fst).Nodup := by
  unfold resultIncrements
  split <;> split <;> simp

/-- A counter's increment stands in the list, with its carry unit, or is none. -/
theorem resultIncrements_lookup (cal : Cal) (eng : EngState) (x : ResultRecord) {c : Nat} (hc : c < 8) :
    (resultIncrements cal eng x).lookup c = some (residueUnit c, resultIncrement cal eng x c)
      ∨ ((resultIncrements cal eng x).lookup c = none ∧ resultIncrement cal eng x c = 0) := by
  unfold resultIncrements resultIncrement
  interval_cases c <;> split <;> split <;> simp [List.lookup, residueUnit]

/-- The list goes through the counters in id order. -/
theorem resultIncrements_flatMap {β : Type} (cal : Cal) (eng : EngState) (x : ResultRecord) (f : Nat → Nat → Nat → List β) :
    ((resultIncrements cal eng x).flatMap fun i => f i.1 i.2.1 i.2.2)
      = (List.range 8).flatMap fun c => ((resultIncrements cal eng x).lookup c).elim [] fun i => f c i.1 i.2 := by
  unfold resultIncrements
  split <;> split <;> simp [List.range, List.range.loop, List.lookup]

theorem levelEvent_eq (c : Nat) (old new : Level) :
    levelEvent c old new = if decide (new ≠ old) = true then [(.wearLevel, c, new.code + 256 * old.code)] else [] := by
  unfold levelEvent
  by_cases h : new = old <;> simp [h]

section
variable {s : State} (hr : ∀ c < 8, (s.wru.counter c).residue < residueUnit c)
  (hv : ∀ c < 8, (s.wru.counter c).value ≤ 4294967295) (x : ResultRecord)
include hr hv

/-- Each counter after a result. -/
theorem counter_fedResult {c : Nat} (hc : c < 8) :
    (s.wru.fedAll s.cal (resultIncrements s.cal s.eng.state x)).counter c
      = (s.wru.counter c).fed s.cal s.wru.seeded c (residueUnit c) (resultIncrement s.cal s.eng.state x c) := by
  rw [Wru.counter_fedAll _ (fun i hi => (resultIncrements_unit _ _ _ i hi).1) (resultIncrements_nodup _ _ _)]
  rcases resultIncrements_lookup s.cal s.eng.state x hc with h | ⟨h, hzero⟩
  · rw [h]
    rfl
  · rw [h, hzero]
    exact (Counter.fed_zero (hr c hc) (hv c hc) _ _ _).symm

/-- Each km tally after a result. -/
theorem kmTally_fedResult {c : Nat} (hc : c < 4) (ht : s.wru.kmTally c ≤ 65535)
    (hs : (s.wru.counter c).saturated = false) :
    (s.wru.fedAll s.cal (resultIncrements s.cal s.eng.state x)).kmTally c
      = min 65535 (s.wru.kmTally c
          + (((s.wru.counter c).fed s.cal s.wru.seeded c (residueUnit c)
              (resultIncrement s.cal s.eng.state x c)).value - (s.wru.counter c).value)) := by
  have hc8 : c < 8 := by omega
  rw [Wru.kmTally_fedAll _ (fun i hi => (resultIncrements_unit _ _ _ i hi).1) (resultIncrements_nodup _ _ _) _ hc]
  rcases resultIncrements_lookup s.cal s.eng.state x hc8 with h | ⟨h, hzero⟩
  · rw [h]
    exact if_pos hs
  · rw [h, hzero, Counter.fed_zero (hr c hc8) (hv c hc8), Nat.sub_self, Nat.add_zero, Nat.min_eq_right ht]
    rfl

/-- The changes of level of a result, in id order. -/
theorem feedEvents_result :
    s.wru.feedEvents s.cal (resultIncrements s.cal s.eng.state x)
      = ((List.range 8).filter fun c =>
          decide (((s.wru.counter c).fed s.cal s.wru.seeded c (residueUnit c)
            (resultIncrement s.cal s.eng.state x c)).level ≠ (s.wru.counter c).level)).map fun c =>
          (.wearLevel, c,
            ((s.wru.counter c).fed s.cal s.wru.seeded c (residueUnit c)
              (resultIncrement s.cal s.eng.state x c)).level.code + 256 * (s.wru.counter c).level.code) := by
  rw [← flatMap_ite_eq_filter_map]
  unfold Wru.feedEvents
  rw [resultIncrements_flatMap s.cal s.eng.state x fun c unit inc =>
    levelEvent c (s.wru.counter c).level ((s.wru.counter c).fed s.cal s.wru.seeded c unit inc).level]
  refine List.flatMap_congr fun c hc => ?_
  have hc8 := List.mem_range.mp hc
  rw [← levelEvent_eq]
  rcases resultIncrements_lookup s.cal s.eng.state x hc8 with h | ⟨h, hzero⟩
  · rw [h]
    rfl
  · rw [h, hzero, Counter.fed_zero (hr c hc8) (hv c hc8), levelEvent, if_pos rfl]
    rfl

end

theorem kmTally_fedResult_saturated {s : State} (x : ResultRecord) {c : Nat} (hc : c < 4)
    (hs : (s.wru.counter c).saturated = true) :
    (s.wru.fedAll s.cal (resultIncrements s.cal s.eng.state x)).kmTally c = s.wru.kmTally c := by
  rw [Wru.kmTally_fedAll _ (fun i hi => (resultIncrements_unit _ _ _ i hi).1) (resultIncrements_nodup _ _ _) _ hc]
  rcases (resultIncrements s.cal s.eng.state x).lookup c with - | i
  · rfl
  · exact if_neg (by simp [hs])

/-- A result fed, with its events. -/
theorem wruTakes_eq (x : ResultRecord) (s : State) :
    wruTakes x s = setLamp ((s.setWru (s.wru.fedAll s.cal (resultIncrements s.cal s.eng.state x))).raising .wru
      (s.wru.feedEvents s.cal (resultIncrements s.cal s.eng.state x))) := by
  unfold wruTakes
  rw [foldl_feedResidue (fun i hi => (resultIncrements_unit _ _ _ i hi).1) (resultIncrements_nodup _ _ _)]

/-- What the lamp's setting makes of a state in which counters and tallies have been fed from `w`, and events raised. -/
theorem setLamp_fed {s u : State} {v : Wru} {events : List (EventKind × Nat × Nat)}
    (hu : u = (s.setWru v).raising .wru events)
    (hv : v = { s.wru with counters := v.counters, tally := v.tally }) :
    (∀ c, (setLamp u).wru.counter c = v.counter c) ∧ (∀ c, (setLamp u).wru.kmTally c = v.kmTally c)
      ∧ ((setLamp u).wru.ring = s.wru.ring ∧ (setLamp u).wru.seeded = s.wru.seeded
        ∧ (setLamp u).wru.kmAcc = s.wru.kmAcc)
      ∧ LampFollows s.wru (setLamp u).wru s.mdc.partTime
      ∧ setLamp u = { s with wru := (setLamp u).wru }.raising .wru events := by
  have hwru : u.wru = v := by rw [hu]; rfl
  obtain ⟨-, htally, hring, hseeded, hkm⟩ := setLamp_wru u
  refine ⟨fun c => by rw [setLamp_counter, hwru], fun c => by simp only [Wru.kmTally, htally, hwru], ⟨?_, ?_, ?_⟩, ?_, ?_⟩
  · rw [hring, hwru, hv]
  · rw [hseeded, hwru, hv]
  · rw [hkm, hwru, hv]
  · refine setLamp_follows_from ?_ ?_ ?_ ?_ ?_
    iterate 4 rw [hwru, hv]
    rw [hu]
    rfl
  · rw [setLamp_frame, hu]
    rfl

/-- Settles O39: the increments of a result as `Wru.fedAll` enters them, and the lamp after them. -/
theorem wruResultTaken : Obligations.WruResultTaken := by
  intro s x rest hin hr engineOn increment residue sum value level fed hv
  let u : State := s.setMail { s.mail with wruIn := rest }
  have hrun : exec .wruResult s = .next (wruTakes x u) := by
    simp only [exec, execWruResult, wruTakesNext, hin]
    rfl
  have hincrement (c : Nat) : resultIncrement s.cal s.eng.state x c = increment c := by
    simp only [resultIncrement, increment, engineOn, EngState.counts_iff]
  have hfed (c : Nat) : (s.wru.counter c).fed s.cal s.wru.seeded c (residueUnit c)
      (resultIncrement s.cal s.eng.state x c) = fed c := by
    rw [hincrement]
    rfl
  obtain ⟨hcounter, htally, hrest, hlamp, hframe⟩ := setLamp_fed (s := u) rfl
    (Wru.fedAll_rest u.wru u.cal (resultIncrements u.cal u.eng.state x))
  rw [← wruTakes_eq] at hcounter htally hrest hlamp hframe
  refine ⟨_, hrun, fun c hc => ?_, fun c hc hs ht => ?_, fun c hc hs => ?_, hrest, hlamp, ?_⟩
  · exact (hcounter c).trans ((counter_fedResult (s := u) hr hv x hc).trans (hfed c))
  · have hvalue : (fed c).value = value c := by
      simp only [fed, hs]
      rfl
    rw [htally c, kmTally_fedResult (s := u) hr hv x hc ht hs, ← hvalue, ← hfed c]
    rfl
  · exact (htally c).trans (kmTally_fedResult_saturated (s := u) x hc hs)
  · refine hframe.trans ?_
    rw [feedEvents_result (s := u) hr hv]
    simp only [← hfed]
    rfl

end Sys2Proof.Machine
end

section
/-!
PROOFS. WRU takes an increment of ENG's and a distance; the lamp timer; WEAR_SEED and WEAR_SERVICE (R132, R137, R138, R143 to R146).
-/
namespace Sys2Proof.Machine

/-! ## An increment of STARTS or HOTSTOP (R132) -/

/-- Counters 4 to 7 have no tally. -/
theorem Wru.addTally_none (w : Wru) {c : Nat} (hc : 4 ≤ c) (units : Nat) : w.addTally c units = w := by
  have htally (n : Nat) : w.tally.setIfInBounds c n = w.tally := by
    apply Vector.ext
    intro i hi
    simp [show c ≠ i by omega]
  rw [Wru.addTally, htally]

/-- A counter without a residue and an increment entered into its value (R133, R134). -/
def Counter.counted (k : Counter) (cal : Cal) (seeded : Bool) (c n : Nat) : Counter :=
  if k.saturated then k
  else
    { value := min 4294967295 (k.value + n), residue := k.residue, saturated := decide (4294967295 < k.value + n)
      level := k.levelAt cal seeded c (min 4294967295 (k.value + n)) }

theorem feedCount_eq {c : Nat} (hc : c < 8) (htally : 4 ≤ c) (n : Nat) (s : State) :
    feedCount c n s =
      (s.setWru (s.wru.setCounter c ((s.wru.counter c).counted s.cal s.wru.seeded c n))).raising .wru
        (levelEvent c (s.wru.counter c).level ((s.wru.counter c).counted s.cal s.wru.seeded c n).level) := by
  unfold feedCount
  dsimp only
  by_cases hs : (s.wru.counter c).saturated = true
  · rw [if_pos hs, Counter.counted, if_pos hs, levelEvent, if_pos rfl, State.raising_nil, Wru.setCounter_self _ _ hc]
    rfl
  · rw [if_neg hs, Counter.addUnits_eq, Counter.counted, if_neg hs]
    rw [Bool.not_eq_true] at hs
    rw [hs, Bool.false_or, putCounter_eq hc, putLevel_eq (by rfl), Wru.addTally_none _ htally]

/-- Settles O40: `feedCount_eq`, and the lamp after it. -/
theorem engineIncrementTaken : Obligations.EngineIncrementTaken := by
  intro s c n rest hin hcounter _ k value level fed
  have hc : c < 8 := by omega
  have htally : 4 ≤ c := by omega
  let u : State := s.setMail { s.mail with incIn := rest }
  obtain ⟨hcounters, -, hrest, hlamp, hframe⟩ := setLamp_fed (s := u) (feedCount_eq hc htally n u) rfl
  have htallies : (setLamp (feedCount c n u)).wru.tally = s.wru.tally := by
    rw [(setLamp_wru _).2.1, feedCount_eq hc htally]
    rfl
  refine ⟨_, exec_engineIncrement_cons hin, fun d _ => ?_, ⟨htallies, hrest⟩, hlamp, hframe⟩
  exact (hcounters d).trans (Wru.counter_setCounter _ _ _ _ hc)

/-! ## Distances and the lamp timer (R144 to R146) -/

theorem exec_kmDistance_cons {s : State} {d : Nat} {rest : List Nat} (h : s.mail.kmIn = d :: rest) :
    exec .kmDistance s = .next (wruTakesDistance d (s.setMail { s.mail with kmIn := rest })) := by
  simp only [exec, execKmDistance, wruTakesNextDistance, h]

/-- WRU with the km tallies pushed and the accumulator set (R145, R146). -/
def Wru.kmDone (w : Wru) (acc : Nat) : Wru := { w.kmPush with kmAcc := acc }

theorem Wru.kmDone_eq (w : Wru) (acc : Nat) :
    w.kmDone acc = { w with kmAcc := acc, tally := (w.kmDone acc).tally, ring := (w.kmDone acc).ring } := rfl

theorem Wru.kmTally_kmDone (w : Wru) (acc : Nat) {c : Nat} (hc : c < 4) : (w.kmDone acc).kmTally c = 0 := by
  simp [Wru.kmTally, Wru.kmDone, Wru.kmPush, hc]

theorem Wru.kmRing_kmDone (w : Wru) (acc : Nat) {c : Nat} (hc : c < 4) :
    (w.kmDone acc).kmRing c
      = (if 16 ≤ (w.kmRing c).length then (w.kmRing c).drop 1 else w.kmRing c) ++ [w.kmTally c] := by
  simp [Wru.kmDone, Wru.kmPush, Wru.kmRing, hc]

theorem wruTakesDistance_below {d : Nat} {s : State} (h : s.wru.kmAcc + d < 1000000) :
    wruTakesDistance d s = s.setWru { s.wru with kmAcc := s.wru.kmAcc + d } := if_neg (Nat.not_le.mpr h)

theorem wruTakesDistance_full {d : Nat} {s : State} (h : 1000000 ≤ s.wru.kmAcc + d) :
    wruTakesDistance d s = s.setWru (s.wru.kmDone (s.wru.kmAcc + d - 1000000)) := by
  unfold wruTakesDistance
  dsimp only
  rw [if_pos h]
  rfl

theorem exec_lampTimerExpiry {s : State} {e : PartTime} (hpattern : s.wru.pattern = .flash)
    (htimer : s.wru.lampTimer = some e) (hreached : elapsed s.mdc.partTime e < 2147483648) :
    exec .lampTimerExpiry s = .next
      { s with
        wru :=
          { s.wru with
            phase := if s.wru.phase = .lit then .dark else .lit
            wlamp := decide (s.wru.phase ≠ .lit)
            lampTimer := some (s.mdc.partTime + 500) } } := by
  have hexpired : (s.wru.pattern == .flash && expired s.now s.wru.lampTimer) = true := by
    rw [hpattern, htimer]
    exact decide_eq_true hreached
  refine next_congr ((if_pos hexpired).trans ?_)
  cases hphase : s.wru.phase <;> rfl

/-- Settles O41: below and from 1,000,000 mm, and the lamp in each phase. -/
theorem kmAndLampEvents : Obligations.KmAndLampEvents := by
  refine ⟨fun s d rest hin => ⟨_, exec_kmDistance_cons hin, ?_, fun hbelow => ?_, fun hfull => ?_⟩,
    fun s e => exec_lampTimerExpiry⟩
  · unfold wruTakesDistance
    dsimp only
    split <;> rfl
  · rw [wruTakesDistance_below (s := s.setMail { s.mail with kmIn := rest }) hbelow]
    rfl
  · rw [wruTakesDistance_full (s := s.setMail { s.mail with kmIn := rest }) hfull]
    exact ⟨s.wru.kmDone_eq _, fun c hc => ⟨s.wru.kmTally_kmDone _ hc, s.wru.kmRing_kmDone _ hc⟩⟩

/-! ## WEAR_SEED (R137) -/

theorem Wru.counter_addSeeds (w : Wru) (p : List Byte) {c : Nat} (hc : c < 8) :
    (w.addSeeds p).counter c = ((w.counter c).addUnits (seedAt p c)).1 := by
  rw [← Counter.seed_eq_addUnits]
  unfold Wru.addSeeds Wru.counter
  simp only [Vector.getElem?_ofFn, hc, dif_pos, Option.getD_some]

theorem Wru.counters_toList (w : Wru) : w.counters.toList = (List.range 8).map w.counter := by
  apply List.ext_getElem
  · simp
  · intro c hc _
    simp only [Vector.length_toList] at hc
    simp [Wru.counter, hc]

theorem exec_wearSeed_seeded {s : State} {p : List Byte} {rest : List Frame} (h : Serves s ⟨0x60, p⟩ rest)
    (hp : p.length = 32) (hend : s.mail.loadEndWru = false) (hs : s.wru.seeded = true) :
    exec .wearSeed s = .next (s.answered rest (.reply 0x60 .refusedState s.mdc.op 1)) := by
  refine next_congr ((takeRequest_serves h 0x60 wruLoaded execWearSeed.serve rfl ?_ ?_).trans ?_)
  · simp [lengthOk, requestLength, hp]
  · simp [wruLoaded, hend]
  · simp only [execWearSeed.serve, State.setLnk_wru, hs, if_true, reply_taken]

/-- The state in which the seeds have been added and graded. -/
theorem exec_wearSeed_unseeded {s : State} {p : List Byte} {rest : List Frame} (h : Serves s ⟨0x60, p⟩ rest)
    (hp : p.length = 32) (hend : s.mail.loadEndWru = false) (hs : s.wru.seeded = false) :
    let t := setLamp (gradeAll ((s.setLnk { s.lnk with intake := rest }).setWru (s.wru.addSeeds p)))
    exec .wearSeed s = .next (reply 0x60 .done (t.wru.counters.toList.countP Counter.saturated) t) := by
  refine next_congr ((takeRequest_serves h 0x60 wruLoaded execWearSeed.serve rfl ?_ ?_).trans ?_)
  · simp [lengthOk, requestLength, hp]
  · simp [wruLoaded, hend]
  · simp only [execWearSeed.serve, State.setLnk_wru, hs, Bool.false_eq_true, if_false]

/-- A counter with its seed, graded (R137, R139). -/
def Counter.seeded (k : Counter) (cal : Cal) (c seed : Nat) : Counter :=
  { value := min 4294967295 (k.value + seed), residue := k.residue
    saturated := k.saturated || decide (4294967295 < k.value + seed)
    level := gradeOf cal c (min 4294967295 (k.value + seed)) }

/-- Every counter with its seed, graded. -/
theorem counter_gradeSeeds (s : State) (p : List Byte) {c : Nat} (hc : c < 8) :
    ((s.wru.addSeeds p).gradedOn s.cal (List.range 8)).counter c = (s.wru.counter c).seeded s.cal c (seedAt p c) := by
  rw [Wru.counter_gradedOn _ _ _ _ hc, if_pos (List.mem_range.mpr hc), Wru.counter_addSeeds _ _ hc, Counter.addUnits_eq]
  rfl

/-- The changes of level of a seeding, in id order (R142). -/
def State.seedEvents (s : State) (p : List Byte) : List (EventKind × Nat × Nat) :=
  ((List.range 8).filter fun c =>
      decide (((s.wru.counter c).seeded s.cal c (seedAt p c)).level ≠ (s.wru.counter c).level)).map fun c =>
    (.wearLevel, c, ((s.wru.counter c).seeded s.cal c (seedAt p c)).level.code + 256 * (s.wru.counter c).level.code)

/-- What the seeding makes of a state: counters, lamp, and the events raised. -/
theorem setLamp_gradeSeeds (s : State) (p : List Byte) :
    let t := setLamp (gradeAll (s.setWru (s.wru.addSeeds p)))
    (∀ c < 8, t.wru.counter c = (s.wru.counter c).seeded s.cal c (seedAt p c))
      ∧ (t.wru.tally = s.wru.tally ∧ t.wru.ring = s.wru.ring ∧ t.wru.kmAcc = s.wru.kmAcc ∧ t.wru.seeded = true)
      ∧ LampFollows s.wru t.wru s.mdc.partTime
      ∧ t = { s with wru := t.wru }.raising .wru
          (s.seedEvents p) := by
  intro t
  have hwru : (gradeAll (s.setWru (s.wru.addSeeds p))).wru = (s.wru.addSeeds p).gradedOn s.cal (List.range 8) := by
    rw [gradeAll_raising]
    rfl
  obtain ⟨-, htally, hring, hseeded, hkm⟩ := setLamp_wru (gradeAll (s.setWru (s.wru.addSeeds p)))
  refine ⟨fun c hc => ?_, ⟨?_, ?_, ?_, ?_⟩, ?_, ?_⟩
  · rw [setLamp_counter, hwru, counter_gradeSeeds _ _ hc]
  · rw [htally, hwru]; rfl
  · rw [hring, hwru]; rfl
  · rw [hkm, hwru]; rfl
  · rw [hseeded, hwru]; rfl
  · refine setLamp_follows_from ?_ ?_ ?_ ?_ ?_
    iterate 4 rw [hwru]; rfl
    simp
  · have hevents : ((List.range 8).filter fun c => decide (((s.wru.addSeeds p).counter c).level
          ≠ gradeOf s.cal c ((s.wru.addSeeds p).counter c).value)).map (fun c =>
            (EventKind.wearLevel, c, (gradeOf s.cal c ((s.wru.addSeeds p).counter c).value).code
              + 256 * ((s.wru.addSeeds p).counter c).level.code))
        = s.seedEvents p := by
      have hseed {c : Nat} (hc : c < 8) : ((s.wru.addSeeds p).counter c).level = (s.wru.counter c).level
          ∧ gradeOf s.cal c ((s.wru.addSeeds p).counter c).value
            = ((s.wru.counter c).seeded s.cal c (seedAt p c)).level := by
        rw [Wru.counter_addSeeds _ _ hc, Counter.addUnits_eq]
        exact ⟨rfl, rfl⟩
      rw [State.seedEvents, ← flatMap_ite_eq_filter_map, ← flatMap_ite_eq_filter_map]
      refine List.flatMap_congr fun c hc => ?_
      obtain ⟨hlevel, hgrade⟩ := hseed (List.mem_range.mp hc)
      simp only [hlevel, hgrade, ne_comm]
    have hraised := (gradeAll_raising (s.setWru (s.wru.addSeeds p))).trans
      (congrArg (State.raising (s.setWru ((s.wru.addSeeds p).gradedOn s.cal (List.range 8))) .wru) hevents)
    have hany (w : Wru) : { gradeAll (s.setWru (s.wru.addSeeds p)) with wru := w }
        = { s with wru := w }.raising .wru (s.seedEvents p) := by
      rw [hraised]
      rfl
    exact (setLamp_frame _).trans (hany _)

/-- WEAR_SEED of an UNSEEDED WRU. -/
theorem exec_wearSeed_counters {s : State} {p : List Byte} {rest : List Frame} (h : Serves s ⟨0x60, p⟩ rest)
    (hp : p.length = 32) (hend : s.mail.loadEndWru = false) (hs : s.wru.seeded = false) :
    ∃ t, exec .wearSeed s = .next t
      ∧ (∀ c < 8, t.wru.counter c = (s.wru.counter c).seeded s.cal c (seedAt p c))
      ∧ (t.wru.tally = s.wru.tally ∧ t.wru.ring = s.wru.ring ∧ t.wru.kmAcc = s.wru.kmAcc ∧ t.wru.seeded = true)
      ∧ LampFollows s.wru t.wru s.mdc.partTime
      ∧ t = State.raising
          { s.answered rest (.reply 0x60 .done s.mdc.op
              ((List.range 8).countP fun c => ((s.wru.counter c).seeded s.cal c (seedAt p c)).saturated)) with
            wru := t.wru }
          .wru
          (s.seedEvents p) := by
  have hrun := exec_wearSeed_unseeded h hp hend hs
  obtain ⟨hcounter, hrest, hlamp, hframe⟩ := setLamp_gradeSeeds (s.setLnk { s.lnk with intake := rest }) p
  dsimp only at hrun
  rw [State.setLnk_wru] at hcounter hrest hlamp hframe
  generalize setLamp (gradeAll ((s.setLnk { s.lnk with intake := rest }).setWru (s.wru.addSeeds p))) = t
    at hcounter hrest hlamp hframe hrun
  have hcount : t.wru.counters.toList.countP Counter.saturated
      = (List.range 8).countP fun c => ((s.wru.counter c).seeded s.cal c (seedAt p c)).saturated := by
    rw [Wru.counters_toList, List.countP_map]
    refine List.countP_congr fun c hc => ?_
    rw [Function.comp_apply, hcounter c (List.mem_range.mp hc)]
    rfl
  refine ⟨_, hrun, hcounter, hrest, hlamp, ?_⟩
  rw [hcount]
  have hreplied := congrArg (reply 0x60 .done ((List.range 8).countP fun c =>
    ((s.wru.counter c).seeded s.cal c (seedAt p c)).saturated)) hframe
  exact hreplied

/-! ## WEAR_SERVICE (R138) -/

theorem exec_wearService_outside {s : State} {b : Byte} {rest : List Frame} (h : Serves s ⟨0x61, [b]⟩ rest)
    (hend : s.mail.loadEndWru = false) (hc : 7 < b.toNat) :
    exec .wearService s = .next (s.answered rest (.reply 0x61 .badValue s.mdc.op 0xFFFF)) := by
  refine next_congr ((takeRequest_serves h 0x61 wruLoaded execWearService.serve rfl rfl ?_).trans (if_pos hc))
  simp [wruLoaded, hend]

theorem exec_wearService_unseeded {s : State} {b : Byte} {rest : List Frame} (h : Serves s ⟨0x61, [b]⟩ rest)
    (hend : s.mail.loadEndWru = false) (hc : b.toNat ≤ 7) (hs : s.wru.seeded = false) :
    exec .wearService s = .next (s.answered rest (.reply 0x61 .refusedState s.mdc.op 0)) := by
  refine next_congr ((takeRequest_serves h 0x61 wruLoaded execWearService.serve rfl rfl ?_).trans
    ((if_neg (Nat.not_lt.mpr hc)).trans (if_pos ?_)))
  · simp [wruLoaded, hend]
  · simp [hs]

/-- A counter serviced, with the event and the lamp that follow where it had a level (R138, R142, R143). -/
def serviceCounter (c : Nat) (s : State) : State :=
  if (s.wru.counter c).level = .none then s.setWru (s.wru.serviced c)
  else setLamp (raise .wru .wearLevel c (256 * (s.wru.counter c).level.code) (s.setWru (s.wru.serviced c)))

theorem exec_wearService_served {s : State} {b : Byte} {rest : List Frame} (h : Serves s ⟨0x61, [b]⟩ rest)
    (hend : s.mail.loadEndWru = false) (hc : b.toNat ≤ 7) (hs : s.wru.seeded = true) :
    exec .wearService s = .next (reply 0x61 .done (s.wru.counter b.toNat).level.code
      (serviceCounter b.toNat (s.setLnk { s.lnk with intake := rest }))) := by
  refine next_congr ((takeRequest_serves h 0x61 wruLoaded execWearService.serve rfl rfl ?_).trans
    ((if_neg (Nat.not_lt.mpr hc)).trans (if_neg ?_)))
  · simp [wruLoaded, hend]
  · simp [hs]

theorem Wru.kmTally_serviced (w : Wru) (c : Nat) {d : Nat} (hd : d < 4) :
    (w.serviced c).kmTally d = if d = c then 0 else w.kmTally d := by
  unfold Wru.serviced Wru.kmTally
  by_cases h : d = c
  · subst h; simp [hd]
  · simp [h, Ne.symm h]

theorem Wru.kmRing_serviced (w : Wru) (c : Nat) {d : Nat} (hd : d < 4) :
    (w.serviced c).kmRing d = if d = c then [] else w.kmRing d := by
  unfold Wru.serviced Wru.kmRing
  by_cases h : d = c
  · subst h; simp [hd]
  · simp [h, Ne.symm h]

/-- What a service changes: the counter, its tally and ring, the lamp, and the event it raises. -/
theorem serviceCounter_spec {c : Nat} (hc : c < 8) {s : State} (hp : s.wru.pattern = lampPatternFor s.wru) :
    let t := serviceCounter c s
    (∀ d, t.wru.counter d = if d = c then Counter.reset else s.wru.counter d)
      ∧ (∀ d < 4, t.wru.kmTally d = (if d = c then 0 else s.wru.kmTally d)
          ∧ t.wru.kmRing d = if d = c then [] else s.wru.kmRing d)
      ∧ (t.wru.seeded = s.wru.seeded ∧ t.wru.kmAcc = s.wru.kmAcc)
      ∧ LampFollows s.wru t.wru s.mdc.partTime
      ∧ t = { s with wru := t.wru }.raising .wru
          (if (s.wru.counter c).level = Level.none then [] else [(.wearLevel, c, 256 * (s.wru.counter c).level.code)]) := by
  intro t
  by_cases hlevel : (s.wru.counter c).level = Level.none
  · have ht : t = s.setWru (s.wru.serviced c) := if_pos hlevel
    rw [if_pos hlevel, State.raising_nil, ht]
    refine ⟨fun d => s.wru.counter_serviced hc d, fun d hd => ⟨s.wru.kmTally_serviced c hd, s.wru.kmRing_serviced c hd⟩,
      ⟨rfl, rfl⟩, ⟨?_, fun _ => ⟨rfl, rfl, rfl⟩, fun h => absurd rfl h, fun h => absurd rfl h, fun h => absurd rfl h⟩, rfl⟩
    exact hp.trans (lampPatternFor_serviced hc hlevel).symm
  · have ht : t = setLamp (raise .wru .wearLevel c (256 * (s.wru.counter c).level.code) (s.setWru (s.wru.serviced c))) :=
      if_neg hlevel
    rw [if_neg hlevel, ht]
    obtain ⟨-, htally, hring, hseeded, hkm⟩ :=
      setLamp_wru (raise .wru .wearLevel c (256 * (s.wru.counter c).level.code) (s.setWru (s.wru.serviced c)))
    refine ⟨fun d => ?_, fun d hd => ⟨?_, ?_⟩, ⟨hseeded, hkm⟩, ?_, setLamp_frame _⟩
    · rw [setLamp_counter]
      exact s.wru.counter_serviced hc d
    · simp only [Wru.kmTally, htally]
      exact s.wru.kmTally_serviced c hd
    · simp only [Wru.kmRing, hring]
      exact s.wru.kmRing_serviced c hd
    · exact setLamp_follows_from rfl rfl rfl rfl rfl

/-- Settles O42: the refusals, the seeding (`exec_wearSeed_counters`) and the service (`serviceCounter_spec`). -/
theorem wearRequestsServed : Obligations.WearRequestsServed := by
  refine ⟨fun s p rest h hp hend => ⟨exec_wearSeed_seeded h hp hend, fun hs => ?_⟩, fun s b rest h hend => ?_⟩
  · intro b sum seeded
    have hseeded (c : Nat) : (s.wru.counter c).seeded s.cal c (seedAt p c) = seeded c :=
      congrArg ((s.wru.counter c).seeded s.cal c) (u32At_eq p (4 * c))
    have hrun := exec_wearSeed_counters h hp hend hs
    simp only [State.seedEvents, hseeded] at hrun
    exact hrun
  · intro c refuse
    refine ⟨exec_wearService_outside h hend, exec_wearService_unseeded h hend, fun hc hs hp => ?_⟩
    intro old
    obtain ⟨hcounter, hkm, hrest, hlamp, hframe⟩ := serviceCounter_spec (s := s.setLnk { s.lnk with intake := rest })
      (Nat.lt_succ_of_le hc) hp
    refine ⟨_, exec_wearService_served h hend hc hs, fun d _ => hcounter d, hkm, ⟨hrest.1.trans hs, hrest.2⟩, hlamp, ?_⟩
    have hreplied := congrArg (reply 0x61 .done old.code) hframe
    exact hreplied

end Sys2Proof.Machine
end

section
/-!
PROOFS. What a service prediction says (R148).
-/
namespace Sys2Proof.Machine

/-! ## Predictions (R148) -/

/-- Settles O44: the rows of R148's table in their order, the last by what a division rounded down is. -/
theorem predictionSound : Obligations.PredictionSound := by
  intro cal w c _ svc v ring rate
  have hprediction : prediction cal w c =
      if (!w.seeded) = true then 65535 else if svc = 0 then 65535 else if svc ≤ v then 0 else if ring.length < 4 then 65535
      else if rate = 0 then 65535 else min 65534 ((svc - v) / rate) := rfl
  refine ⟨fun h => ?_, fun hs hsvc hle => ?_, fun hs hlt hnone => ?_, fun hs hlt hlen hrate => ?_⟩
  · rw [hprediction]
    rcases h with hs | hsvc
    · exact if_pos (by simp [hs])
    · rw [if_pos hsvc]
      exact ite_self _
  · rw [hprediction, if_neg (by simp [hs]), if_neg hsvc, if_pos hle]
  · rw [hprediction, if_neg (by simp [hs]), if_neg (by omega), if_neg (Nat.not_le.mpr hlt)]
    rcases hnone with hlen | hrate
    · exact if_pos hlen
    · rw [if_pos hrate]
      exact ite_self _
  · have hvalue : prediction cal w c = min 65534 ((svc - v) / rate) := by
      rw [hprediction, if_neg (by simp [hs]), if_neg (by omega), if_neg (Nat.not_le.mpr hlt), if_neg (Nat.not_lt.mpr hlen),
        if_neg hrate]
    rw [hvalue]
    have hfloor : (svc - v) / rate * rate ≤ svc - v := Nat.div_mul_le_self _ _
    have hnext : svc - v < ((svc - v) / rate + 1) * rate := by
      rw [Nat.mul_comm]
      exact Nat.lt_mul_div_succ _ (Nat.pos_of_ne_zero hrate)
    refine ⟨Nat.min_le_left _ _, ?_, fun hcap => ?_⟩
    · have hcapped : min 65534 ((svc - v) / rate) * rate ≤ (svc - v) / rate * rate :=
        Nat.mul_le_mul_right _ (Nat.min_le_right _ _)
      omega
    · have hexact : min 65534 ((svc - v) / rate) = (svc - v) / rate := by omega
      rw [hexact]
      omega

end Sys2Proof.Machine
end

section
/-!
PROOFS. A counter's value falls only by a service or a reset (R140).
-/
namespace Sys2Proof.Machine

/-! ## Values that rise (R140) -/

/-- No counter's value falls from one state to another. -/
def State.WearRises (s t : State) : Prop := ∀ c < 8, (s.wru.counter c).value ≤ (t.wru.counter c).value

/-- Every counter's value can be held in 32 bits. -/
def State.WearHeld (s : State) : Prop := ∀ c < 8, (s.wru.counter c).value ≤ 4294967295

theorem State.WearRises.refl (s : State) : s.WearRises s := fun _ _ => Nat.le_refl _

theorem State.WearRises.of_wru {s t : State} (h : t.wru = s.wru) : s.WearRises t := fun c _ => by rw [h]

section
variable {s t : State} (h : s.WearRises t)
include h

theorem State.WearRises.counters {u : State} (hu : u.wru.counters = t.wru.counters) : s.WearRises u := by
  intro c hc
  have hcounter : u.wru.counter c = t.wru.counter c := by rw [Wru.counter, Wru.counter, hu]
  rw [hcounter]
  exact h c hc

theorem State.WearRises.kept {u : State} (hu : u.wru = t.wru) : s.WearRises u := h.counters (by rw [hu])

theorem State.WearRises.reply (e : Byte) (st : Status) (d : Nat) : s.WearRises (reply e st d t) := h

/-! ### The operations of WRU -/

theorem setLamp_rises : s.WearRises (setLamp t) := h.counters (setLamp_wru t).1

theorem regrade_rises {c : Nat} (hc : c < 8) : s.WearRises (regrade c t) := by
  intro d hd
  rw [regrade_wru hc, Wru.counter_setCounter _ _ _ _ hc]
  split
  · subst d; exact h c hc
  · exact h d hd

theorem gradeAll_rises : s.WearRises (gradeAll t) := by
  intro d hd
  have hwru : (gradeAll t).wru = t.wru.gradedOn t.cal (List.range 8) := by
    rw [gradeAll_raising]
    rfl
  rw [hwru, Wru.counter_gradedOn _ _ _ _ hd]
  split <;> exact h d hd

theorem addSeeds_rises (p : List Byte) (ht : t.WearHeld) : s.WearRises (t.setWru (t.wru.addSeeds p)) := by
  intro c hc
  rw [State.setWru_wru, Wru.counter_addSeeds _ _ hc, Counter.addUnits_eq]
  exact Nat.le_min.mpr ⟨(h c hc).trans (ht c hc), (h c hc).trans (Nat.le_add_right _ _)⟩

theorem wruTakes_rises (x : ResultRecord) (ht : t.WearHeld) : s.WearRises (wruTakes x t) := by
  intro c hc
  rw [wruTakes_eq, setLamp_counter]
  refine (h c hc).trans ?_
  have hcounter := Wru.counter_fedAll t.cal (fun i hi => (resultIncrements_unit t.cal t.eng.state x i hi).1)
    (resultIncrements_nodup _ _ _) t.wru c
  refine le_of_le_of_eq ?_ (congrArg Counter.value hcounter).symm
  rcases (resultIncrements t.cal t.eng.state x).lookup c with - | i
  · exact Nat.le_refl _
  · exact Counter.value_le_fed (ht c hc) _ _ _ _ _

theorem feedCount_rises (c n : Nat) (ht : t.WearHeld) : s.WearRises (feedCount c n t) := by
  unfold feedCount
  dsimp only
  split
  · exact h
  by_cases hc : c < 8
  · intro d hd
    rw [putCounter_wru hc, Wru.counter_addTally, Wru.counter_setCounter _ _ _ _ hc]
    split
    · subst d
      rw [Counter.addUnits_eq]
      exact Nat.le_min.mpr ⟨(h c hc).trans (ht c hc), (h c hc).trans (Nat.le_add_right _ _)⟩
    · exact h d hd
  · rw [putCounter_outside (Nat.le_of_not_lt hc)]
    exact h

theorem wruTakesIncrement_rises (c n : Nat) (ht : t.WearHeld) : s.WearRises (wruTakesIncrement c n t) :=
  setLamp_rises (feedCount_rises h c n ht)

theorem wruTakesDistance_rises (d : Nat) : s.WearRises (wruTakesDistance d t) := by
  unfold wruTakesDistance
  dsimp only
  split <;> exact h.counters rfl

/-! ### What WRU takes -/

theorem wruTakesLoadEnd_rises : s.WearRises (wruTakesLoadEnd t) := by
  unfold wruTakesLoadEnd
  split
  · dsimp only
    split
    · apply setLamp_rises
      apply gradeAll_rises
      exact h
    · exact h
  · exact h

theorem wruTakesNext_rises (ht : t.WearHeld) : s.WearRises (wruTakesNext t) := by
  unfold wruTakesNext
  split
  · exact h
  · apply wruTakes_rises
    · exact h
    · exact ht

theorem wruTakesNextIncrement_rises (ht : t.WearHeld) : s.WearRises (wruTakesNextIncrement t) := by
  unfold wruTakesNextIncrement
  split
  · exact h
  · apply wruTakesIncrement_rises
    · exact h
    · exact ht

theorem wruTakesNextDistance_rises : s.WearRises (wruTakesNextDistance t) := by
  unfold wruTakesNextDistance
  split
  · exact h
  · apply wruTakesDistance_rises
    exact h

/-! ### Requests -/

theorem wearSeedServe_rises (f : Frame) (ht : t.WearHeld) : s.WearRises (execWearSeed.serve f t) := by
  unfold execWearSeed.serve
  split
  · exact h
  · apply State.WearRises.reply
    apply setLamp_rises
    apply gradeAll_rises
    exact addSeeds_rises h _ ht

theorem calWriteEffect_rises (id : Nat) : s.WearRises (calWriteEffect id t) := by
  unfold calWriteEffect
  split
  · exact h
  split
  · unfold gradeThreshold
    split
    · apply setLamp_rises
      apply regrade_rises
      · exact h
      · omega
    · exact h
  · exact h

theorem calWriteServe_rises (f : Frame) : s.WearRises (execCalWrite.serve f t) := by
  unfold execCalWrite.serve
  split
  · dsimp only
    generalize calKnown (byteAt f.payload 0) = known
    cases known
    · exact h
    · apply State.WearRises.reply
      apply calWriteEffect_rises
      exact h
  all_goals exact h

end

/-! ### RESTART (R161) -/

theorem WearInv.held {s : State} (h : WearInv s) : s.WearHeld := h.values

/-- The invariant holds, and no value has fallen since a state before. -/
def State.WearRisen (s t : State) : Prop := WearInv t ∧ s.WearRises t

/-- What waits before a RESTART is taken without a value falling. -/
theorem takeAllWaiting_rises {s : State} (h : WearInv s) : s.WearRises (takeAllWaiting s) := by
  have hloaded : s.WearRisen (wruTakesLoadEnd (dspTakesLoadEnd s)) :=
    ⟨wruTakesLoadEnd_wearInv (h.kept .heatInit rfl rfl rfl),
      wruTakesLoadEnd_rises (.of_wru (wru_kept .heatInit rfl s (dspTakesLoadEnd s) rfl))⟩
  have hheat : ∀ t, s.WearRisen t → s.WearRisen (heatTakesNext t) := fun t ⟨hinv, hrise⟩ =>
    ⟨hinv.kept .heatUpdate rfl rfl rfl, hrise.kept (wru_kept .heatUpdate rfl t _ rfl)⟩
  have hrte : ∀ t, s.WearRisen t → s.WearRisen (rteTakesNext t) := fun t ⟨hinv, hrise⟩ =>
    ⟨hinv.kept .rteResult rfl rfl rfl, hrise.kept (wru_kept .rteResult rfl t _ rfl)⟩
  have heng : ∀ t, s.WearRisen t → s.WearRisen (engTakesNext t) := fun t ⟨hinv, hrise⟩ =>
    ⟨hinv.kept .engResultEvaluation rfl rfl rfl, hrise.kept (wru_kept .engResultEvaluation rfl t _ rfl)⟩
  have hwru : ∀ t, s.WearRisen t → s.WearRisen (wruTakesNext t) := fun t ⟨hinv, hrise⟩ =>
    ⟨wruTakesNext_wearInv hinv, wruTakesNext_rises hrise hinv.held⟩
  have hinc : ∀ t, s.WearRisen t → s.WearRisen (wruTakesNextIncrement t) := fun t ⟨hinv, hrise⟩ =>
    ⟨wruTakesNextIncrement_wearInv hinv, wruTakesNextIncrement_rises hrise hinv.held⟩
  have hkm : ∀ t, s.WearRisen t → s.WearRisen (wruTakesNextDistance t) := fun t ⟨hinv, hrise⟩ =>
    ⟨wruTakesNextDistance_wearInv hinv, wruTakesNextDistance_rises hrise⟩
  suffices s.WearRisen (takeAllWaiting s) from this.2
  unfold takeAllWaiting
  dsimp only
  apply Function.Iterate.rec s.WearRisen (app := hkm)
  apply Function.Iterate.rec s.WearRisen (app := hinc)
  apply Function.Iterate.rec s.WearRisen (app := hwru)
  apply Function.Iterate.rec s.WearRisen (app := heng)
  apply Function.Iterate.rec s.WearRisen (app := hrte)
  apply Function.Iterate.rec s.WearRisen (app := hheat)
  exact hloaded

theorem countHotStop_rises {s t : State} (h : s.WearRises t) (ht : t.WearHeld) : s.WearRises (countHotStop t) := by
  unfold countHotStop
  split
  · exact wruTakesIncrement_rises h 6 1 ht
  · exact h

theorem Wru.restarted_counters (w : Wru) : w.restarted.counters = w.counters := by
  unfold Wru.restarted
  split <;> rfl

theorem enterLoading_wru (s : State) : (enterLoading s).wru = s.wru := by
  unfold enterLoading
  dsimp only
  (repeat' split) <;> simp

theorem restartEffect_rises {s : State} (h : WearInv s) : s.WearRises (restartEffect s) := by
  have hcounted := countHotStop_rises (takeAllWaiting_rises h) (takeAllWaiting_wearSettled h).1.held
  unfold restartEffect
  dsimp only
  generalize countHotStop (takeAllWaiting s) = taken at hcounted ⊢
  refine hcounted.counters ?_
  rw [enterLoading_wru]
  exact taken.wru.restarted_counters

theorem transmitEnd_rises {s t : State} (h : WearInv s) (he : exec .transmitEnd s = .next t) : s.WearRises t := by
  simp only [exec, execTransmitEnd, Host.Outcome.next.injEq] at he
  subst he
  split
  · exact .refl s
  · split
    · exact restartEffect_rises h
    · exact .of_wru rfl

/-! ## Every command -/

theorem takeRequest_rises {s : State} (type : Byte) (ready : Frame → State → Bool) {serve : Frame → State → State}
    (hserve : ∀ f t, s.WearRises t → t.WearHeld → s.WearRises (serve f t)) (h : WearInv s) :
    s.WearRises (takeRequest type ready serve s) := by
  rcases takeRequest_cases type ready serve s with e | ⟨f, rest, -, -, ⟨-, e⟩ | ⟨-, -, e⟩⟩ <;> rw [e]
  · exact .refl s
  · exact .of_wru rfl
  · apply hserve
    · exact .of_wru rfl
    · exact h.held

/-- No other command lowers a value. -/
theorem exec_rises (i : Instr) {s t : State} (h : WearInv s) (he : exec i s = .next t)
    (hservice : i ≠ .wearService) (hreset : ∀ straps, i ≠ .powerOn straps ∧ i ≠ .resetn straps) : s.WearRises t := by
  cases i
  case wearService => exact absurd rfl hservice
  case powerOn straps => exact absurd rfl (hreset straps).1
  case resetn straps => exact absurd rfl (hreset straps).2
  case wruLoadingGrade => cases he; exact wruTakesLoadEnd_rises (.refl s)
  case wruResult => cases he; exact wruTakesNext_rises (.refl s) h.held
  case engineIncrement => cases he; exact wruTakesNextIncrement_rises (.refl s) h.held
  case kmDistance => cases he; exact wruTakesNextDistance_rises (.refl s)
  case lampTimerExpiry =>
    simp only [exec, execLampTimerExpiry, Host.Outcome.next.injEq] at he
    subst he
    split
    · refine (State.WearRises.refl s).counters ?_
      rw [State.setWru_wru]
      cases s.wru.phase <;> rfl
    · exact .refl s
  case calWrite => cases he; exact takeRequest_rises _ _ (fun f _ ht _ => calWriteServe_rises ht f) h
  case wearSeed => cases he; exact takeRequest_rises _ _ (fun f _ ht hheld => wearSeedServe_rises ht f hheld) h
  case transmitEnd => exact transmitEnd_rises h he
  all_goals exact .of_wru (wru_kept _ rfl s t he)

/-- Settles O43: any other command leaves every value at least what it was. -/
theorem wearValuesRise : Obligations.WearValuesRise := by
  intro i s t h he c hc hfalls
  by_contra hother
  rw [not_or, not_exists] at hother
  obtain ⟨hservice, hreset⟩ := hother
  have hrises := exec_rises i h he hservice (fun straps => not_or.mp (hreset straps))
  exact absurd (hrises c hc) (Nat.not_le.mpr hfalls)

end Sys2Proof.Machine
end

section
/-!
PROOFS. The shares of a dispatch written out: the split in MOTORING and COASTING (R14 to R22) and the blend in BRAKING (R33 to
R43).
-/
namespace Sys2Proof.Machine

/-! ## MOTORING and COASTING -/

theorem dispatchMode_split {c : Cal} {a b : Nat} (hb : b < c.brakeDb) :
    dispatchMode c a b = if c.accelDb ≤ a then .motoring else .coasting :=
  if_neg (Nat.not_le.mpr hb)

/-- Below the brake's dead band the shares are split. -/
theorem decideShares_split {x : DispatchInput} (hb : x.fields.b < x.cal.brakeDb) :
    decideShares x = splitDecision x (if x.cal.accelDb ≤ x.fields.a then .motoring else .coasting) := by
  unfold decideShares
  rw [dispatchMode_split hb]
  split <;> simp_all
  split at * <;> simp_all

/-- The traction request (R15, R16). -/
theorem tractionRequest_split (c : Cal) (p : Prop) [Decidable p] (a v : Nat) :
    tractionRequest c (if p then .motoring else .coasting) a v =
      if p then ((a * motorEnvelope c v / 1000 : Nat) : Int)
      else if v ≥ c.vCoastMin then -((min c.coastP (regenEnvelope c v) : Nat) : Int) else 0 := by
  split <;> rfl

theorem EngState.generates_iff (e : EngState) : e.generates = true ↔ e = .running ∨ e = .warmup := by
  cases e <;> decide

/-- The discharge-side clamp by its condition (R20). -/
theorem dischargeClamp_eq (dis aux gen mot : Int) :
    dischargeClamp dis aux gen mot =
      (if mot + aux - gen > dis ∧ mot > 0 then max 0 (dis + gen - aux) else mot, decide (mot + aux - gen > dis ∧ mot > 0)) := by
  unfold dischargeClamp
  by_cases h : mot + aux - gen > dis ∧ mot > 0
  · rw [if_pos h, if_pos h, decide_eq_true h]
  · rw [if_neg h, if_neg h, decide_eq_false h]

/-- The generator set-point that the charge-side clamp leaves (R21). -/
def heldGen (chg aux gen mot : Int) : Int := if mot + aux - gen < -chg then max 0 (mot + aux + chg) else gen

/-- The charge-side clamp by its conditions (R21). -/
theorem chargeClamp_eq (chg aux gen mot : Int) :
    chargeClamp chg aux gen mot =
      (if heldGen chg aux gen mot = 0 ∧ mot + aux - gen < -chg ∧ mot + aux < -chg then -(min (-mot) (chg + aux)) else mot,
        heldGen chg aux gen mot,
        decide (heldGen chg aux gen mot = 0 ∧ mot + aux - gen < -chg ∧ mot + aux < -chg)) := by
  unfold chargeClamp heldGen
  by_cases hlow : mot + aux - gen < -chg
  · by_cases hzero : max 0 (mot + aux + chg) = 0
    · by_cases hshort : mot + aux < -chg <;> simp only [hlow, hzero, hshort, Int.sub_zero, and_self, and_false, if_true,
        if_false, decide_true, decide_false]
    · simp only [hlow, hzero, false_and, if_true, if_false, decide_false]
  · simp [hlow]

/-- The flags set in every mode, by what sets them (R11, R12, R13, R23). -/
theorem commonFlags_eq (x : DispatchInput) :
    commonFlags x =
      { tractionLimited := false, regenLimited := false, auxOverload := false
        envelopeHeld := decide (x.envFlag = .held)
        envelopeFallback := decide (x.envFlag = .fallback)
        pedalConflict := false, regenFaded := false, resistorDerated := false
        permitWait := decide (x.permit ≠ .on)
        quietZone := decide (x.zone = .quiet) } := by
  have hwait : (x.permit != .on) = decide (x.permit ≠ .on) := by cases x.permit <;> rfl
  unfold commonFlags
  rw [hwait]
  rfl

/-- Settles O12: the two clamps on the request and the set-point, in their order. -/
theorem splitShares : Obligations.SplitShares := by
  intro x hb motoring v aux motEnv regenEnv trac permitted pref capped warm gen0 mot0 limited mot1 batt1 gen regenCut mot
  have htrac : tractionRequest x.cal (if x.cal.accelDb ≤ x.fields.a then .motoring else .coasting) x.fields.a x.fields.v
      = trac := tractionRequest_split x.cal _ x.fields.a x.fields.v
  have hgen : genSetPoint x trac = gen0 := by
    unfold genSetPoint
    by_cases hp : permitted
    · rw [if_pos ((EngState.generates_iff _).mpr hp)]
      exact (if_pos hp).symm
    · rw [if_neg (fun h => hp ((EngState.generates_iff _).mp h))]
      exact (if_neg hp).symm
  rw [decideShares_split hb]
  unfold splitDecision
  dsimp only
  rw [htrac, hgen, dischargeClamp_eq, chargeClamp_eq, commonFlags_eq]
  have hprev : (if x.engine.generates = true then gen else 0) = if permitted then gen else 0 :=
    if_congr (EngState.generates_iff _) rfl rfl
  rw [← hprev]
  rfl

/-! ## BRAKING -/

/-- At or above the brake's dead band the shares are blended. -/
theorem decideShares_blend {x : DispatchInput} (hb : x.cal.brakeDb ≤ x.fields.b) : decideShares x = blendDecision x := by
  unfold decideShares dispatchMode
  rw [if_pos hb]

/-- The regenerative cap (R35). -/
theorem regenCap_eq (c : Cal) (permit : Permit) (v : Nat) :
    (regenCap c permit v : Int) =
      if permit = .on ∧ v ≥ c.vRegenMin then ((min c.regenPmax (v * c.regenSlope / 64) : Nat) : Int) else (0 : Int) := by
  unfold regenCap regenEnvelope
  by_cases hp : permit = .on <;> by_cases hv : c.vRegenMin ≤ v <;> simp [hp, hv]

/-- The resistor's acceptance (R37), with its capacity and hot threshold written out. -/
theorem resistorAcceptance_eq (c : Cal) (level : Level) (heat : Nat) :
    (resistorAcceptance c level heat : Int) =
      if c.resFitted = 0 then (0 : Int)
      else if level = .limit then (0 : Int)
      else if heat ≤ c.resCapKj * 8000 then (c.resPmax : Int)
      else ((c.resPmax * 5 * (c.resCapKj * 10000 - heat) / (c.resCapKj * 10000) : Nat) : Int) := by
  unfold resistorAcceptance Cal.heatHot Cal.heatCap
  by_cases hf : c.resFitted = 0
  · rw [if_pos (.inl hf), if_pos hf]
    rfl
  rw [if_neg hf]
  by_cases hl : level = .limit
  · rw [if_pos (.inr hl), if_pos hl]
    rfl
  rw [if_neg (not_or.mpr ⟨hf, hl⟩), if_neg hl]
  split <;> rfl

/-- The division of the friction over the axles (R43). -/
theorem axleSplit_eq (c : Cal) (fric : Nat) :
    axleSplit c fric =
      ((fric : Int) * c.bias1 / 100, if c.axleCount = 3 then (fric : Int) * c.bias2 / 100 else fric - (fric : Int) * c.bias1 / 100,
        if c.axleCount = 3 then fric - (fric : Int) * c.bias1 / 100 - (fric : Int) * c.bias2 / 100 else 0) := by
  unfold axleSplit
  split <;> simp only [Int.natCast_ediv, Int.natCast_mul, Int.cast_ofNat_Int]

/-- Settles O13: the amounts of the blend are natural numbers, of which the statement speaks as integers. -/
theorem blendShares : Obligations.BlendShares := by
  intro x hb v full req cap aBatt aRes regen res fric axle1 axle2
  rw [decideShares_blend hb]
  unfold blendDecision
  dsimp only
  have hreq : ((brakeRequest x.cal x.fields.b x.fields.v : Nat) : Int) = req := rfl
  have hcap : ((regenCap x.cal x.permit x.fields.v : Nat) : Int) = cap := regenCap_eq _ _ _
  have haRes : ((resistorAcceptance x.cal x.resistLevel x.heat : Nat) : Int) = aRes := resistorAcceptance_eq _ _ _
  have haBatt : ((x.chgEff + x.fields.pAux : Nat) : Int) = aBatt := Int.natCast_add _ _
  generalize brakeRequest x.cal x.fields.b x.fields.v = reqN at hreq ⊢
  generalize regenCap x.cal x.permit x.fields.v = capN at hcap ⊢
  generalize resistorAcceptance x.cal x.resistLevel x.heat = aResN at haRes ⊢
  generalize x.chgEff + x.fields.pAux = aBattN at haBatt ⊢
  have hregen : ((min reqN (min capN (aBattN + aResN)) : Nat) : Int) = regen := by
    rw [Nat.cast_min, Nat.cast_min, Nat.cast_add, hreq, hcap, haBatt, haRes]
  have hle : min reqN (min capN (aBattN + aResN)) ≤ reqN := Nat.min_le_left _ _
  generalize min reqN (min capN (aBattN + aResN)) = regenN at hregen hle ⊢
  have hfric : ((reqN - regenN : Nat) : Int) = fric := by
    rw [Nat.cast_sub hle, hreq, hregen]
  have hres : ((regenN - aBattN : Nat) : Int) = res := by
    have hmax : ((regenN - aBattN : Nat) : Int) = max 0 ((regenN : Int) - aBattN) := by omega
    rw [hmax, hregen, haBatt]
  have hlimited : decide (aBattN + aResN < reqN ∧ aBattN + aResN < capN)
      = decide (aBatt + aRes < req ∧ aBatt + aRes < cap) := by
    rw [decide_eq_decide, ← hreq, ← hcap, ← haBatt, ← haRes]
    omega
  have hderated : decide (x.cal.resFitted = 1 ∧ aResN < x.cal.resPmax)
      = decide (x.cal.resFitted = 1 ∧ aRes < x.cal.resPmax) := by
    rw [decide_eq_decide, ← haRes, Nat.cast_lt]
  have haxle3 : (if x.cal.axleCount = 3 then fric - fric * x.cal.bias1 / 100 - fric * x.cal.bias2 / 100 else 0)
      = if x.cal.axleCount = 3 then fric - axle1 - axle2 else 0 := by
    by_cases hthree : x.cal.axleCount = 3
    · have haxle2 : axle2 = fric * x.cal.bias2 / 100 := if_pos hthree
      rw [if_pos hthree, if_pos hthree, haxle2]
    · rw [if_neg hthree, if_neg hthree]
  rw [commonFlags_eq, axleSplit_eq, hfric, hregen, hlimited, hderated, hres, haxle3]

end Sys2Proof.Machine
end

section
/-!
PROOFS. The lookahead (R124 to R127): the scan as a walk, its energies, its target and its quiet distance.
-/
namespace Sys2Proof.Machine

/-! ## The scan as a walk (R124) -/

/-- Where the end action leads beyond the range, with direction and laps (R115 to R117). -/
def Plan.beyond (p : Plan) (dir : Dir) (laps : Nat) : Option (Nat × Dir × Nat) :=
  match p.endAction with
  | .stop => none
  | .turn => some (turnIndex p dir, dir.flip, laps)
  | .wrap => if p.laps = 0 then some (p.wrap, dir, laps) else if laps ≤ 1 then none else some (p.wrap, dir, laps - 1)

/-- The place after a place in travel order: index, direction and laps. -/
def Plan.follow (p : Plan) (q : Nat × Dir × Nat) : Option (Nat × Dir × Nat) :=
  match nextIndex p q.2.1 q.1 with
  | some k => some (k, q.2)
  | none => p.beyond q.2.1 q.2.2

/-- The walk from a place, of at most `n` further ones. -/
def Plan.walk (p : Plan) : Nat → Nat × Dir × Nat → List (Nat × Dir × Nat)
  | 0, q => [q]
  | n + 1, q => q :: (p.follow q).elim [] (p.walk n)

/-- What the scan keeps of a place. -/
def Rte.scannedAt (r : Rte) (q : Nat × Dir × Nat) : Scanned :=
  { seg := r.segment q.1, grade := effectiveGrade q.2.1 (r.segment q.1).grade }

theorem scanAfter_succ (r : Rte) (p : Plan) (n : Nat) (q : Nat × Dir × Nat) :
    scanAfter r p (n + 1) q.2.1 q.2.2 q.1 =
      (p.follow q).elim [] fun q' => r.scannedAt q' :: scanAfter r p n q'.2.1 q'.2.2 q'.1 := by
  rw [scanAfter]
  unfold Plan.follow
  cases nextIndex p q.2.1 q.1 with
  | some k => rfl
  | none =>
    unfold Plan.beyond
    cases p.endAction with
    | stop => rfl
    | turn => rfl
    | wrap =>
      by_cases hendless : p.laps = 0
      · simp only [if_pos hendless]
        rfl
      · by_cases hlast : q.2.2 ≤ 1
        · simp only [if_neg hendless, if_pos hlast, if_pos (show q.2.2 - 1 = 0 by omega)]
          rfl
        · simp only [if_neg hendless, if_neg hlast, if_neg (show ¬q.2.2 - 1 = 0 by omega)]
          rfl

/-- The scan from a place holds the segments of the walk from it. -/
theorem scan_of_walk (r : Rte) (p : Plan) (n : Nat) (q : Nat × Dir × Nat) :
    r.scannedAt q :: scanAfter r p n q.2.1 q.2.2 q.1 = (p.walk n q).map r.scannedAt := by
  induction n generalizing q with
  | zero => rfl
  | succ n ih =>
    rw [scanAfter_succ, Plan.walk, List.map_cons]
    cases p.follow q with
    | none => rfl
    | some q' => exact congrArg _ (ih q')

section
variable (p : Plan)

theorem Plan.walk_head (n : Nat) (q : Nat × Dir × Nat) : (p.walk n q).head? = some q := by
  cases n <;> rfl

theorem Plan.walk_length (n : Nat) (q : Nat × Dir × Nat) : (p.walk n q).length ≤ n + 1 := by
  induction n generalizing q with
  | zero => exact Nat.le_refl _
  | succ n ih =>
    rw [Plan.walk, List.length_cons]
    cases p.follow q with
    | none => exact Nat.le_add_left _ _
    | some q' => exact Nat.succ_le_succ (ih q')

/-- Each place of a walk is the one after the place before it. -/
theorem Plan.walk_follows (n : Nat) (q : Nat × Dir × Nat) (i : Nat) (hi : i + 1 < (p.walk n q).length) :
    (p.walk n q)[i + 1]? = (p.walk n q)[i]?.bind p.follow := by
  induction n generalizing q i with
  | zero => exact absurd hi (by simp [Plan.walk])
  | succ n ih =>
    rw [Plan.walk] at hi ⊢
    cases hf : p.follow q with
    | none => simp [hf] at hi
    | some q' =>
      rw [hf] at hi
      cases i with
      | zero =>
        have hhead : (p.walk n q')[0]? = some q' := by rw [← List.head?_eq_getElem?, p.walk_head]
        simpa [hf] using hhead
      | succ i => simpa using ih q' i (by simpa using hi)

/-- A walk that is shorter than it may be ends where no place follows. -/
theorem Plan.walk_ends (n : Nat) (q : Nat × Dir × Nat) (hshort : (p.walk n q).length ≤ n) :
    (p.walk n q).getLast?.bind p.follow = none := by
  induction n generalizing q with
  | zero => exact absurd hshort (by simp [Plan.walk])
  | succ n ih =>
    rw [Plan.walk] at hshort ⊢
    cases hf : p.follow q with
    | none => simpa using hf
    | some q' =>
      rw [hf] at hshort
      have hlast : (q :: p.walk n q').getLast? = (p.walk n q').getLast? := by
        rw [List.getLast?_cons, List.getLast?_eq_some_getLast (by cases n <;> simp [Plan.walk])]
        rfl
      exact (congrArg (·.bind p.follow) hlast).trans (ih q' (Nat.le_of_succ_le_succ hshort))

end

/-! ## Energies (R125) -/

theorem quietEnergy_nonneg (c : Cal) (xs : List Scanned) : 0 ≤ quietEnergy c xs := by
  refine List.sum_nonneg fun e he => ?_
  obtain ⟨x, -, rfl⟩ := List.mem_map.mp he
  exact mul_nonneg (Int.natCast_nonneg _) (le_max_left _ _)

theorem descentEnergy_nonneg (c : Cal) (xs : List Scanned) : 0 ≤ descentEnergy c xs := by
  refine List.sum_nonneg fun e he => ?_
  obtain ⟨x, -, rfl⟩ := List.mem_map.mp he
  exact mul_nonneg (Int.natCast_nonneg _) (le_max_left _ _)

/-- R is the least number that the quiet run's energy allows. -/
theorem quietReserve_le_iff {c : Cal} (hpack : 0 < c.packWh) (xs : List Scanned) (n : Nat) :
    quietReserve c xs ≤ n ↔ quietEnergy c xs * 10000 ≤ n * c.packWh := by
  obtain ⟨e, he⟩ := Int.eq_ofNat_of_zero_le (quietEnergy_nonneg c xs)
  unfold quietReserve
  rw [he, Int.toNat_natCast, ← Nat.lt_succ_iff, Nat.div_lt_iff_lt_mul hpack, Nat.succ_mul]
  have hround : e * 10000 + (c.packWh - 1) < n * c.packWh + c.packWh ↔ e * 10000 ≤ n * c.packWh := by omega
  rw [hround]
  exact_mod_cast Iff.rfl

/-- D is the greatest number that the descents' energy allows. -/
theorem le_descentRoom_iff {c : Cal} (hpack : 0 < c.packWh) (xs : List Scanned) (n : Nat) :
    n ≤ descentRoom c xs ↔ (n * c.packWh : Int) ≤ descentEnergy c xs * 10000 := by
  obtain ⟨e, he⟩ := Int.eq_ofNat_of_zero_le (descentEnergy_nonneg c xs)
  unfold descentRoom
  rw [he, Int.toNat_natCast, Nat.le_div_iff_mul_le hpack]
  exact_mod_cast Iff.rfl

/-! ## The quiet floor, the target and the quiet distance (R125 to R127) -/

theorem quietFloor_eq (xs : List Scanned) :
    quietFloor xs = ((xs.find? Scanned.isQuiet).map fun x => x.seg.floor).getD 0 := by
  unfold quietFloor
  cases xs.find? Scanned.isQuiet <;> rfl

theorem scanTarget_charge (c : Cal) {x : Scanned} {rest : List Scanned} (h : x.seg.zone = .charge) :
    scanTarget c (x :: rest) = c.socHi :=
  if_pos h

theorem scanTarget_clamped {c : Cal} {x : Scanned} {rest : List Scanned} (h : x.seg.zone ≠ .charge)
    (hrange : c.socLo ≤ c.socHi) :
    (scanTarget c (x :: rest) : Int) =
      max (c.socLo : Int) (min (c.socHi : Int)
        (max ((c.socBase : Int) + quietReserve c (x :: rest) - descentRoom c (x :: rest)) (quietFloor (x :: rest)))) := by
  have htarget : scanTarget c (x :: rest) = (clampInt c.socLo c.socHi
      (max ((c.socBase : Int) + quietReserve c (x :: rest) - descentRoom c (x :: rest)) (quietFloor (x :: rest)))).toNat :=
    (if_neg h).trans (if_pos hrange)
  rw [htarget, clampInt, min_comm, Int.toNat_of_nonneg]
  exact (Int.natCast_nonneg _).trans (le_max_left _ _)

theorem Scanned.isQuiet_iff (x : Scanned) : x.isQuiet = true ↔ x.seg.zone = .quiet := beq_iff_eq

theorem scanQuietDistance_eq (remaining : Nat) (x : Scanned) (rest : List Scanned) :
    scanQuietDistance remaining (x :: rest) =
      if x.seg.zone = .quiet then some 0
      else if ∀ y ∈ x :: rest, y.seg.zone ≠ .quiet then none
      else some (remaining + ((rest.takeWhile fun y => !y.isQuiet).map fun y => y.seg.len * 10000).sum) := by
  unfold scanQuietDistance
  dsimp only
  by_cases hhere : x.seg.zone = .quiet
  · rw [if_pos (x.isQuiet_iff.mpr hhere), if_pos hhere]
  rw [if_neg (fun h => hhere (x.isQuiet_iff.mp h)), if_neg hhere]
  by_cases hahead : rest.any Scanned.isQuiet = true
  · obtain ⟨y, hy, hquiet⟩ := List.any_eq_true.mp hahead
    rw [if_pos hahead, if_neg (fun h => h y (List.mem_cons_of_mem _ hy) (y.isQuiet_iff.mp hquiet))]
  · rw [if_neg hahead, if_pos]
    intro y hy hquiet
    rcases List.mem_cons.mp hy with rfl | hy
    · exact hhere hquiet
    · exact hahead (List.any_eq_true.mpr ⟨y, hy, y.isQuiet_iff.mpr hquiet⟩)

/-- Where no QUIET segment is scanned, no reserve is kept and no floor asked. -/
theorem no_quiet_no_reserve {c : Cal} {xs : List Scanned} (h : ∀ x ∈ xs, x.seg.zone ≠ .quiet) :
    quietReserve c xs = 0 ∧ quietFloor xs = 0 := by
  have hnone : ∀ x ∈ xs, ¬x.isQuiet = true := fun x hx hq => h x hx (x.isQuiet_iff.mp hq)
  have henergy : quietEnergy c xs = 0 := by
    unfold quietEnergy
    rw [List.dropWhile_eq_nil_iff.mpr fun x hx => by simp [hnone x hx]]
    rfl
  refine ⟨?_, ?_⟩
  · unfold quietReserve
    rw [henergy]
    rcases Nat.eq_zero_or_pos c.packWh with hzero | hpos
    · rw [hzero, Nat.div_zero]
    · exact Nat.div_eq_of_lt (by simpa using hpos)
  · rw [quietFloor_eq, List.find?_eq_none.mpr hnone]
    rfl

/-- Settles O31: the statement's step is the plan's, whose walk the scan holds. -/
theorem lookaheadSound : Obligations.LookaheadSound := by
  intro c r p xs l here quiet follow quietSum descentSum
  have hfollow : follow = p.follow := by
    funext ⟨k, dir, laps⟩
    unfold Plan.follow Plan.beyond nextIndex turnIndex
    cases dir
    · by_cases hlast : k < p.last
      · simp only [follow, hlast, if_true]
      · simp only [follow, hlast, if_false]
        cases p.endAction <;> rfl
    · by_cases hfirst : p.first < k
      · simp only [follow, hfirst, if_true]
      · simp only [follow, hfirst, if_false]
        cases p.endAction <;> rfl
  have hxs : xs = r.scannedAt (r.index, r.dir, r.laps) :: scanAfter r p c.lookaheadN r.dir r.laps r.index := rfl
  clear_value follow
  subst hfollow
  refine ⟨⟨p.walk c.lookaheadN (r.index, r.dir, r.laps), p.walk_head _ _, p.walk_follows _ _, p.walk_length _ _,
      p.walk_ends _ _, ?_⟩, fun hpack n => ⟨quietReserve_le_iff hpack xs n, le_descentRoom_iff hpack xs n⟩,
    quietFloor_eq xs, fun hcharge => scanTarget_charge c hcharge, fun hother hrange => scanTarget_clamped hother hrange,
    scanQuietDistance_eq _ _ _, no_quiet_no_reserve⟩
  rw [hxs]
  refine (scan_of_walk r p c.lookaheadN (r.index, r.dir, r.laps)).trans (List.map_congr_left fun q _ => ?_)
  unfold Rte.scannedAt effectiveGrade
  cases q.2.1 <;> rfl

end Sys2Proof.Machine
end

section
/-!
PROOFS. Segments, results and requests of RTE (R105 to R122).
-/
namespace Sys2Proof.Machine

/-! ## Entering a segment (R108, R112) -/

/-- The cursor in a segment just entered with an excess, before the lookahead is formed. -/
def Rte.entered (r : Rte) (k excess : Nat) : Rte :=
  { r with
    index := k
    cursor := if (r.segment k).kind = .run then .running else .holding
    remaining := if (r.segment k).kind = .run then (r.segment k).len * 10000 - excess else 0
    raw := 0 }

theorem enterSegment_eq (p : Plan) (k excess : Nat) (s : State) :
    enterSegment p k excess s =
      State.raising
        { s with
          rte := { s.rte.entered k excess with look := some (lookahead s.cal (s.rte.entered k excess) p) } } .rte
        ((.segmentEnter, k, (s.rte.segment k).zone.code + 256 * (s.rte.segment k).kind.code)
          :: if (s.rte.segment k).kind = .hold then [(.routeHold, k, 0)] else []) := by
  unfold enterSegment Rte.entered
  cases hkind : (s.rte.segment k).kind
  · simp only [hkind, if_true, reduceCtorEq, if_false]
    rfl
  · simp only [hkind, if_true, reduceCtorEq, if_false]
    rw [raise_eq, raise_eq, State.raising_raising]
    rfl

/-! ## Moving on (R112, R114 to R117) -/

theorem moveOn_within {p : Plan} {s : State} {k : Nat} (h : nextIndex p s.rte.dir s.rte.index = some k) (excess : Nat) :
    moveOn p excess s = enterSegment p k excess s := by
  unfold moveOn
  rw [h]

section
variable {p : Plan} {s : State} (h : nextIndex p s.rte.dir s.rte.index = none) (excess : Nat)
include h

theorem moveOn_beyond : moveOn p excess s = applyEndAction p excess s := by
  unfold moveOn
  rw [h]

theorem moveOn_stop (hend : p.endAction = .stop) : moveOn p excess s = endPlan .stop s.rte.laps s := by
  rw [moveOn_beyond h, applyEndAction, hend]

theorem moveOn_turn (hend : p.endAction = .turn) :
    moveOn p excess s =
      enterSegment p (turnIndex p s.rte.dir) excess
        (State.raising { s with rte := { s.rte with dir := s.rte.dir.flip } } .rte
          [(.routeTurn, s.rte.dir.flip.code, turnIndex p s.rte.dir)]) := by
  rw [moveOn_beyond h, applyEndAction, hend]
  rfl

theorem moveOn_wrap_endless (hend : p.endAction = .wrap) (hlaps : p.laps = 0) :
    moveOn p excess s = enterSegment p p.wrap excess (s.raising .rte [(.routeWrap, 0, p.wrap)]) := by
  rw [moveOn_beyond h, applyEndAction, hend]
  exact if_pos hlaps

theorem moveOn_wrap_last (hend : p.endAction = .wrap) (hlaps : p.laps ≠ 0) (hlast : s.rte.laps = 1) :
    moveOn p excess s = endPlan .wrap 0 s := by
  rw [moveOn_beyond h, applyEndAction, hend]
  exact (if_neg hlaps).trans (if_pos (by rw [hlast]))

theorem moveOn_wrap_again (hend : p.endAction = .wrap) (hlaps : p.laps ≠ 0) (hmore : 1 < s.rte.laps) :
    moveOn p excess s =
      enterSegment p p.wrap excess
        (State.raising { s with rte := { s.rte with laps := s.rte.laps - 1 } } .rte
          [(.routeWrap, s.rte.laps - 1, p.wrap)]) := by
  rw [moveOn_beyond h, applyEndAction, hend]
  exact (if_neg hlaps).trans (if_neg (by omega))

end

/-- Settles O25: a cursor at the end of its range in its direction has no next segment, and any other has one. -/
theorem segmentMoves : Obligations.SegmentMoves := by
  refine ⟨fun p k excess s => ?_, ?_⟩
  · have hzone : (s.rte.segment k).zone.code = match (s.rte.segment k).zone with | .open_ => 0 | .quiet => 1 | .charge => 2 := by
      cases (s.rte.segment k).zone <;> rfl
    have hkind : (s.rte.segment k).kind.code = match (s.rte.segment k).kind with | .run => 0 | .hold => 1 := by
      cases (s.rte.segment k).kind <;> rfl
    have hentered := enterSegment_eq p k excess s
    rw [hzone, hkind] at hentered
    exact hentered
  · intro p excess s hwf hfirst hlast beyond ended back turned
    have hbeyond : beyond → nextIndex p s.rte.dir s.rte.index = none := by
      intro hb
      unfold nextIndex
      cases hdir : s.rte.dir <;> simp only [beyond, hdir] at hb
      · exact if_neg (by omega)
      · exact if_neg (by omega)
    have hback : turnIndex p s.rte.dir = back := by
      unfold turnIndex
      cases hdir : s.rte.dir <;> simp only [back, hdir]
      exact ite_congr rfl id fun _ => rfl
    have hturned : s.rte.dir.flip = turned := by
      cases hdir : s.rte.dir <;> simp only [turned, hdir] <;> rfl
    refine ⟨fun hb hdir => ?_, fun hb hdir => ?_, fun hb hend => moveOn_stop (hbeyond hb) excess hend, fun hb hend => ?_,
      fun hb => moveOn_wrap_endless (hbeyond hb) excess, fun hb => moveOn_wrap_last (hbeyond hb) excess,
      fun hb => moveOn_wrap_again (hbeyond hb) excess⟩
    · refine moveOn_within ?_ excess
      simp only [beyond, hdir] at hb
      rw [hdir]
      exact if_pos (by omega)
    · refine moveOn_within ?_ excess
      simp only [beyond, hdir] at hb
      rw [hdir]
      exact if_pos (by omega)
    · have hmoved := moveOn_turn (hbeyond hb) excess hend
      have hcode : turned.code = if turned = .forward then 0 else 1 := by cases turned <;> rfl
      rw [hback, hturned, hcode] at hmoved
      exact hmoved

end Sys2Proof.Machine
end

section
/-!
PROOFS. RTE's taking of a result (R109 to R112), and ROUTE_DEPART, ROUTE_SYNC and ROUTE_CLEAR (R118 to R122).
-/
namespace Sys2Proof.Machine

/-! ## A result (R109 to R112) -/

theorem rteTakesNext_cons {s : State} {x : ResultRecord} {rest : List ResultRecord} (h : s.mail.rteIn = x :: rest) :
    rteTakesNext s = rteTakes x (s.setMail { s.mail with rteIn := rest }) := by
  unfold rteTakesNext
  rw [h]

/-- A result's distance passed to WRU and its carry kept (R109). -/
def State.resultCarried (s : State) (x : ResultRecord) : State :=
  (s.setRte { s.rte with carry := odometryNumerator s.rte x.v x.dt % 147456 }).setMail
    { s.mail with kmIn := s.mail.kmIn ++ [odometryDistance s.rte x.v x.dt] }

theorem rteTakes_of_running {s : State} (hc : s.rte.cursor = .running) (x : ResultRecord) :
    rteTakes x s = advanceCursor x.v x.dt (odometryDistance s.rte x.v x.dt) (s.resultCarried x) := by
  unfold rteTakes State.resultCarried
  simp only [hc]

theorem rteTakes_of_not_running {s : State} (hc : s.rte.cursor ≠ .running) (x : ResultRecord) :
    rteTakes x s = s.resultCarried x := by
  unfold rteTakes State.resultCarried
  cases hcursor : s.rte.cursor
  case running => exact absurd hcursor hc
  all_goals rfl

/-- The advance of a cursor with a plan (R111, R112). -/
theorem advanceCursor_of_plan {s : State} {p : Plan} (hp : s.rte.plan = some p) (v dt d : Nat) :
    advanceCursor v dt d s =
      if s.rte.remaining ≤ d then
        moveOn p (d - s.rte.remaining)
          (s.setRte
            { s.rte with
              raw := s.rte.raw + v * dt
              remaining := s.rte.remaining - d
              look := s.rte.look.map fun l => { l with qd := l.qd.map fun mm => mm - d } })
      else
        s.setRte
          { s.rte with
            raw := s.rte.raw + v * dt
            remaining := s.rte.remaining - d
            look := s.rte.look.map fun l => { l with qd := l.qd.map fun mm => mm - d } } := by
  unfold advanceCursor
  simp only [hp]

theorem Cursor.inPlan_iff (c : Cursor) : c.inPlan = true ↔ c = .running ∨ c = .holding := by
  cases c <;> decide

/-- The carry is what is left of the numerator (R109). -/
theorem odometry_carry (n : Nat) : n - n / 147456 * 147456 = n % 147456 := by omega

/-- Settles O26: the carry is kept in every cursor state, and a RUNNING cursor advances. -/
theorem rteResultTaken : Obligations.RteResultTaken := by
  intro s x rest hmail n d mail
  have hcarry : n - d * 147456 = n % 147456 := odometry_carry n
  rw [hcarry]
  refine ⟨fun hc => ?_, fun hc p hp => ?_⟩
  · refine next_congr ((rteTakesNext_cons hmail).trans ((rteTakes_of_not_running ?_ x).trans ?_))
    · exact hc
    · rfl
  · intro advanced
    refine next_congr ((rteTakesNext_cons hmail).trans ((rteTakes_of_running ?_ x).trans
      ((advanceCursor_of_plan (p := p) ?_ _ _ _).trans ?_)))
    · exact hc
    · exact hp
    · rfl

/-! ## ROUTE_DEPART and ROUTE_CLEAR (R118, R122) -/

section
variable {s : State} {rest : List Frame}

theorem exec_routeDepart_refused (h : Serves s ⟨0x42, []⟩ rest) (hc : s.rte.cursor ≠ .holding) :
    exec .routeDepart s = .next (s.answered rest (.reply 0x42 .refusedState s.mdc.op s.rte.cursor.code)) := by
  refine next_congr ((takeRequest_serves h 0x42 noWait execRouteDepart.serve rfl rfl rfl).trans ?_)
  unfold execRouteDepart.serve
  split
  · rename_i hholding _
    exact absurd hholding hc
  · rfl

theorem exec_routeDepart_moves (h : Serves s ⟨0x42, []⟩ rest) (hc : s.rte.cursor = .holding) {p : Plan}
    (hp : s.rte.plan = some p) :
    exec .routeDepart s =
      let t := moveOn p 0 (s.setLnk { s.lnk with intake := rest })
      .next (reply 0x42 .done (if t.rte.cursor = .done then 0xFFFF else t.rte.index) t) := by
  refine next_congr ((takeRequest_serves h 0x42 noWait execRouteDepart.serve rfl rfl rfl).trans ?_)
  unfold execRouteDepart.serve
  simp only [State.setLnk_rte, hc, hp]

theorem exec_routeClear (h : Serves s ⟨0x44, []⟩ rest) :
    exec .routeClear s = .next
      { s.answered rest (.reply 0x44 .done s.mdc.op s.rte.cursor.code) with
        rte :=
          { s.rte with
            cursor := .idle, plan := none, index := 0, dir := .forward, laps := 0, remaining := 0, raw := 0
            look := none } } :=
  next_congr (takeRequest_serves h 0x44 noWait execRouteClear.serve rfl rfl rfl)

end

/-! ### What entering and moving on read -/

/-- Entering a segment reads and leaves the link alone. -/
theorem enterSegment_setLnk (p : Plan) (k excess : Nat) (s : State) (l : Lnk) :
    enterSegment p k excess (s.setLnk l) = (enterSegment p k excess s).setLnk l := by
  rw [enterSegment_eq, enterSegment_eq]
  rfl

theorem moveOn_setLnk (p : Plan) (excess : Nat) (s : State) (l : Lnk) :
    moveOn p excess (s.setLnk l) = (moveOn p excess s).setLnk l := by
  unfold moveOn
  dsimp only [State.setLnk_rte]
  split
  · exact enterSegment_setLnk _ _ _ _ _
  · unfold applyEndAction
    dsimp only [State.setLnk_rte]
    split
    · rfl
    · exact enterSegment_setLnk _ _ _ (raise .rte .routeTurn _ _ (s.setRte _)) _
    · split
      · exact enterSegment_setLnk _ _ _ (raise .rte .routeWrap _ _ s) _
      · split
        · rfl
        · exact enterSegment_setLnk _ _ _ (raise .rte .routeWrap _ _ (s.setRte _)) _

theorem reply_setLnk (e : Byte) (st : Status) (d : Nat) (s : State) (l : Lnk) :
    reply e st d (s.setLnk l) = { s with lnk := { l with replies := l.replies ++ [.reply e st s.mdc.op d] } } := rfl

/-- Settles O29: moving on neither reads nor changes the link, so the answer may be placed before it. -/
theorem routeDepartAndClear : Obligations.RouteDepartAndClear := by
  refine ⟨fun s rest h => ⟨exec_routeDepart_refused h, fun hc p hp => ?_⟩, fun s rest h => exec_routeClear h⟩
  intro t
  refine (exec_routeDepart_moves h hc hp).trans ?_
  rw [moveOn_setLnk]
  have hop : t.mdc.op = s.mdc.op := by simp [t]
  have hreply := reply_setLnk 0x42 .done (if t.rte.cursor = .done then 0xFFFF else t.rte.index) t
    { s.lnk with intake := rest }
  rw [hop] at hreply
  exact next_congr hreply

end Sys2Proof.Machine
end

section
/-!
PROOFS. ROUTE_SYNC, ROUTE_ARM and ROUTE_LOAD (R105 to R107, R119, R120).
-/
namespace Sys2Proof.Machine

/-! ## ROUTE_SYNC (R119, R120) -/

/-- A REPLY placed before a segment is entered is placed as after it: neither reads what the other sets. -/
theorem reply_enterSegment (e : Byte) (st : Status) (d : Nat) (p : Plan) (k excess : Nat) (s : State) :
    reply e st d (enterSegment p k excess s) = enterSegment p k excess (reply e st d s) := by
  rw [enterSegment_eq, enterSegment_eq]
  rfl

/-- The conditions on which a sync makes the trim test (R120). -/
def Rte.trimTried (r : Rte) (p : Plan) (k : Nat) (flag : Bool) : Bool :=
  flag && r.cursor == .running && nextIndex p r.dir r.index == some k

section
variable {p : Plan} {k : Nat} {flag : Bool} {s : State}

theorem trimTest_untried (h : ¬s.rte.trimTried p k flag = true) : trimTest p k flag s = (s, 0) :=
  if_neg h

variable (h : s.rte.trimTried p k flag = true)
include h

theorem trimTest_no_count (hraw : s.rte.raw = 0) : trimTest p k flag s = (s.raising .rte [(.trimRejected, 0, 0)], 2) :=
  (if_pos h).trans (if_pos hraw)

theorem trimTest_rejected (hraw : s.rte.raw ≠ 0) (hout : trimNew s.rte < 3851 ∨ 4341 < trimNew s.rte) :
    trimTest p k flag s = (s.raising .rte [(.trimRejected, 2, min 65535 (trimNew s.rte))], 2) :=
  (if_pos h).trans ((if_neg hraw).trans (if_pos hout))

theorem trimTest_taken (hraw : s.rte.raw ≠ 0) (hlow : 3851 ≤ trimNew s.rte) (hhigh : trimNew s.rte ≤ 4341) :
    trimTest p k flag s = (s.setRte { s.rte with trim := trimNew s.rte }, 1) :=
  (if_pos h).trans ((if_neg hraw).trans (if_neg (by omega)))

end

theorem nextIndex_eq_some_iff (p : Plan) (dir : Dir) (k k' : Nat) :
    nextIndex p dir k = some k' ↔
      match dir with
      | .forward => k < p.last ∧ k' = k + 1
      | .reverse => p.first < k ∧ k' + 1 = k := by
  unfold nextIndex
  cases dir <;> dsimp only <;> split <;> simp only [Option.some.injEq, reduceCtorEq, false_iff] <;> omega

theorem Rte.trimTried_iff (r : Rte) (p : Plan) (k : Nat) (b flag : Byte) :
    r.trimTried p k (byteAt [b, flag] 1 != 0) = true ↔
      flag ≠ 0 ∧ r.cursor = .running ∧ nextIndex p r.dir r.index = some k := by
  have hflag : (byteAt [b, flag] 1 != 0) = true ↔ flag ≠ 0 := by
    rw [bne_iff_ne]
    exact not_congr ⟨fun h => BitVec.eq_of_toNat_eq h, fun h => by rw [h]; rfl⟩
  simp only [Rte.trimTried, Bool.and_eq_true, hflag, beq_iff_eq, and_assoc]

theorem routeSyncServe_enters {f : Frame} {s t : State} {p : Plan} {detail : Nat} (hc : s.rte.cursor.inPlan = true)
    (hp : s.rte.plan = some p) (hfirst : p.first ≤ byteAt f.payload 0) (hlast : byteAt f.payload 0 ≤ p.last)
    (htrim : trimTest p (byteAt f.payload 0) (byteAt f.payload 1 != 0) s = (t, detail)) :
    execRouteSync.serve f s = enterSegment p (byteAt f.payload 0) 0 (reply f.type .done detail t) := by
  unfold execRouteSync.serve
  simp only [hc, hp, htrim]
  rw [if_neg (not_or.mpr ⟨Nat.not_lt.mpr hfirst, Nat.not_lt.mpr hlast⟩), reply_enterSegment]

section
variable {s : State} {b flag : Byte} {rest : List Frame} (h : Serves s ⟨0x43, [b, flag]⟩ rest)
include h

theorem exec_routeSync_refused (hc : s.rte.cursor.inPlan = false) :
    exec .routeSync s = .next (s.answered rest (.reply 0x43 .refusedState s.mdc.op s.rte.cursor.code)) := by
  refine next_congr ((takeRequest_serves h 0x43 noWait execRouteSync.serve rfl rfl rfl).trans ?_)
  unfold execRouteSync.serve
  simp only [State.setLnk_rte, hc]
  rfl

variable {p : Plan} (hc : s.rte.cursor.inPlan = true) (hp : s.rte.plan = some p)
include hc hp

theorem exec_routeSync_outside (hk : b.toNat < p.first ∨ p.last < b.toNat) :
    exec .routeSync s = .next (s.answered rest (.reply 0x43 .badValue s.mdc.op 0xFFFF)) := by
  refine next_congr ((takeRequest_serves h 0x43 noWait execRouteSync.serve rfl rfl rfl).trans ?_)
  unfold execRouteSync.serve
  simp only [State.setLnk_rte, hc, hp]
  exact if_pos hk

theorem exec_routeSync_enters (hfirst : p.first ≤ b.toNat) (hlast : b.toNat ≤ p.last) {t : State} {detail : Nat}
    (htrim : trimTest p b.toNat (byteAt [b, flag] 1 != 0) (s.setLnk { s.lnk with intake := rest }) = (t, detail)) :
    exec .routeSync s = .next (enterSegment p b.toNat 0 (reply 0x43 .done detail t)) := by
  refine next_congr ((takeRequest_serves h 0x43 noWait execRouteSync.serve rfl rfl rfl).trans ?_)
  apply routeSyncServe_enters
  · exact hc
  · exact hp
  · exact hfirst
  · exact hlast
  · exact htrim

end

/-- Settles O30: the trim test in its four outcomes, then the segment entered. -/
theorem routeSyncServed : Obligations.RouteSyncServed := by
  intro s b flag rest h k refuse done driven
  refine ⟨fun hc => ?_, fun hc p hp => ?_⟩
  · refine exec_routeSync_refused h (Bool.eq_false_of_not_eq_true fun hin => hc ?_)
    exact (Cursor.inPlan_iff _).mp hin
  intro tried tau
  have hin : s.rte.cursor.inPlan = true := (Cursor.inPlan_iff _).mpr hc
  have htried : (s.setLnk { s.lnk with intake := rest }).rte.trimTried p k (byteAt [b, flag] 1 != 0) = true ↔ tried := by
    refine (Rte.trimTried_iff s.rte p k b flag).trans (and_congr_right' (and_congr_right' ?_))
    refine (nextIndex_eq_some_iff p s.rte.dir s.rte.index k).trans ?_
    cases s.rte.dir <;> exact Iff.rfl
  refine ⟨exec_routeSync_outside h hin hp, fun hfirst hlast => ?_⟩
  have henters {t : State} {detail : Nat} := exec_routeSync_enters h hin hp hfirst hlast (t := t) (detail := detail)
  refine ⟨fun ht => ?_, fun ht hraw => ?_, fun ht hraw hout => ?_, fun ht hraw hlow hhigh => ?_⟩
  · exact henters (trimTest_untried fun hyes => ht (htried.mp hyes))
  · exact henters (trimTest_no_count (htried.mpr ht) hraw)
  · exact henters (trimTest_rejected (htried.mpr ht) hraw hout)
  · exact henters (trimTest_taken (htried.mpr ht) hraw hlow hhigh)

end Sys2Proof.Machine
end

section
/-!
PROOFS. ROUTE_ARM and ROUTE_LOAD (R105 to R107).
-/
namespace Sys2Proof.Machine

/-! ## ROUTE_ARM (R107) -/

theorem lowestUnloaded_first {r : Rte} {first last k : Nat} (hfirst : first ≤ k) (hlast : k ≤ last)
    (hk : r.loaded k = false) (hbefore : ∀ j, first ≤ j → j < k → r.loaded j = true) :
    lowestUnloaded r first last = some k := by
  obtain ⟨i, rfl⟩ := Nat.exists_eq_add_of_le hfirst
  refine findSome?_range_first (k := i) (by omega) ?_ fun j hj => ?_
  · simp [hk]
  · simp [hbefore (first + j) (by omega) (by omega)]

theorem lowestUnloaded_of_loaded {r : Rte} {first last : Nat} (h : ∀ k, first ≤ k → k ≤ last → r.loaded k = true) :
    lowestUnloaded r first last = none := by
  refine List.findSome?_eq_none_iff.mpr fun k hk => ?_
  have hk := List.mem_range.mp hk
  simp [h (first + k) (by omega) (by omega)]

theorem dirOfCode_eq (n : Nat) :
    dirOfCode n = if n ≤ 1 then some (if n = 0 then .forward else .reverse) else none := by
  match n with
  | 0 => rfl
  | 1 => rfl
  | n + 2 => exact (if_neg (by omega)).symm

theorem endActionOfCode_eq (n : Nat) :
    endActionOfCode n = if n ≤ 2 then some (if n = 0 then .stop else if n = 1 then .turn else .wrap) else none := by
  match n with
  | 0 => rfl
  | 1 => rfl
  | 2 => rfl
  | n + 3 => exact (if_neg (by omega)).symm

section
variable {s : State} {p : List Byte} {rest : List Frame} (h : Serves s ⟨0x41, p⟩ rest) (hlen : p.length = 7)
include h hlen

theorem exec_routeArm_serve :
    exec .routeArm s = .next (execRouteArm.serve ⟨0x41, p⟩ (s.setLnk { s.lnk with intake := rest })) :=
  next_congr (takeRequest_serves h 0x41 noWait execRouteArm.serve rfl (by simp [lengthOk, requestLength, hlen]) rfl)

theorem exec_routeArm_refused (hc : s.rte.cursor.inPlan = true) :
    exec .routeArm s = .next (s.answered rest (.reply 0x41 .refusedState s.mdc.op s.rte.cursor.code)) := by
  refine (exec_routeArm_serve h hlen).trans (next_congr ?_)
  exact if_pos hc

variable (hc : ¬s.rte.cursor.inPlan = true)
include hc

theorem exec_routeArm_badFields (hp : planOf p = none) :
    exec .routeArm s = .next (s.answered rest (.reply 0x41 .badValue s.mdc.op 0xFFFF)) := by
  refine (exec_routeArm_serve h hlen).trans (next_congr ((if_neg hc).trans ?_))
  simp only [hp]
  rfl

variable {q : Plan} (hq : planOf p = some q)
include hq

theorem exec_routeArm_unloaded {k : Nat} (hk : lowestUnloaded s.rte q.first q.last = some k) :
    exec .routeArm s = .next (s.answered rest (.reply 0x41 .badValue s.mdc.op k)) := by
  refine (exec_routeArm_serve h hlen).trans (next_congr ((if_neg hc).trans ?_))
  simp only [hq, State.setLnk_rte, hk]
  rfl

theorem exec_routeArm_armed (hloaded : lowestUnloaded s.rte q.first q.last = none) :
    exec .routeArm s = .next
      (enterSegment q q.start 0
        { s.answered rest (.reply 0x41 .done s.mdc.op q.start) with
          rte := { s.rte with plan := some q, dir := q.dir, laps := q.laps } }) := by
  refine (exec_routeArm_serve h hlen).trans (next_congr ((if_neg hc).trans ?_))
  simp only [hq, State.setLnk_rte, hloaded]
  rw [reply_enterSegment]
  rfl

end

/-- The fields of a plan as ROUTE_ARM's second check reads them (R107). -/
theorem planOf_eq (p : List Byte) :
    planOf p =
      if (byteAt p 0 ≤ byteAt p 1 ∧ byteAt p 1 ≤ 63 ∧ byteAt p 0 ≤ byteAt p 2 ∧ byteAt p 2 ≤ byteAt p 1)
          ∧ byteAt p 3 ≤ 1 ∧ byteAt p 4 ≤ 2 ∧ (byteAt p 4 = 2 → byteAt p 0 ≤ byteAt p 5 ∧ byteAt p 5 ≤ byteAt p 1) then
        some
          { first := byteAt p 0, last := byteAt p 1, start := byteAt p 2
            dir := if byteAt p 3 = 0 then .forward else .reverse
            endAction := if byteAt p 4 = 0 then .stop else if byteAt p 4 = 1 then .turn else .wrap
            wrap := if byteAt p 4 = 2 then byteAt p 5 else byteAt p 0
            laps := byteAt p 6 }
      else none := by
  unfold planOf
  dsimp only
  rw [dirOfCode_eq, endActionOfCode_eq]
  by_cases hdir : byteAt p 3 ≤ 1
  · by_cases hend : byteAt p 4 ≤ 2
    · by_cases hrange : byteAt p 0 ≤ byteAt p 1 ∧ byteAt p 1 ≤ 63 ∧ byteAt p 0 ≤ byteAt p 2 ∧ byteAt p 2 ≤ byteAt p 1
      · simp only [hrange, hdir, hend, and_self, true_and, if_true]
        obtain hstop | hturn | hwrap : byteAt p 4 = 0 ∨ byteAt p 4 = 1 ∨ byteAt p 4 = 2 := by omega
        · simp only [hstop, reduceCtorEq, if_true, if_false, OfNat.zero_ne_ofNat, false_imp_iff]
        · simp only [hturn, reduceCtorEq, if_true, if_false, one_ne_zero, OfNat.one_ne_ofNat, false_imp_iff]
        · simp only [hwrap, if_true, if_false, OfNat.ofNat_ne_zero, OfNat.ofNat_ne_one, true_imp_iff]
      · simp only [hdir, hend, hrange, false_and, if_true, if_false]
    · simp only [hdir, hend, false_and, and_false, if_true, if_false]
  · simp only [hdir, false_and, and_false, if_false]

/-- Settles O28: the three checks in their order, and the fields of a plan byte by byte. -/
theorem routeArmServed : Obligations.RouteArmServed := by
  refine ⟨fun s p rest h hlen => ?_, ?_⟩
  · intro refuse driven loaded
    have hdriven : s.rte.cursor.inPlan = true ↔ driven := Cursor.inPlan_iff _
    have hloaded (k : Nat) : s.rte.loaded k = true ↔ loaded k := Rte.loaded_iff
    refine ⟨fun hc => exec_routeArm_refused h hlen (hdriven.mpr hc),
      fun hc hp => exec_routeArm_badFields h hlen (fun hin => hc (hdriven.mp hin)) hp, fun hc q hq => ?_⟩
    have hout : ¬s.rte.cursor.inPlan = true := fun hin => hc (hdriven.mp hin)
    refine ⟨fun k hfirst hlast hempty hbefore => exec_routeArm_unloaded h hlen hout hq (lowestUnloaded_first hfirst hlast ?_
        fun j hj hjk => (hloaded j).mpr (hbefore j hj hjk)),
      fun hall => exec_routeArm_armed h hlen hout hq (lowestUnloaded_of_loaded fun k hk hk' =>
        (hloaded k).mpr (hall k hk hk'))⟩
    simp [Rte.loaded, hempty]
  · intro b0 b1 b2 b3 b4 b5 b6 p first last start wrap ok
    have hp := planOf_eq p
    have hok : ((first ≤ last ∧ last ≤ 63 ∧ first ≤ start ∧ start ≤ last) ∧ b3.toNat ≤ 1 ∧ b4.toNat ≤ 2
        ∧ (b4.toNat = 2 → first ≤ wrap ∧ wrap ≤ last)) ↔ ok := by
      simp only [ok, and_assoc]
    refine ⟨fun hbad => hp.trans (if_neg fun hgood => hbad (hok.mp hgood)), fun hgood => ?_⟩
    refine (hp.trans (if_pos (hok.mpr hgood))).trans ?_
    have hbyte (b : Byte) (k : Nat) (hk : k < 256) : b.toNat = k ↔ b = BitVec.ofNat 8 k := by
      rw [← BitVec.toNat_inj, BitVec.toNat_ofNat, Nat.mod_eq_of_lt hk]
    have hdir : (if b3.toNat = 0 then Dir.forward else .reverse) = if b3 = 0 then .forward else .reverse :=
      if_congr (hbyte b3 0 (by decide)) rfl rfl
    have hend : (if b4.toNat = 0 then EndAction.stop else if b4.toNat = 1 then .turn else .wrap)
        = if b4 = 0 then .stop else if b4 = 1 then .turn else .wrap :=
      if_congr (hbyte b4 0 (by decide)) rfl (if_congr (hbyte b4 1 (by decide)) rfl rfl)
    have hwrap : (if b4.toNat = 2 then wrap else first) = if b4 = 2 then wrap else first :=
      if_congr (hbyte b4 2 (by decide)) rfl rfl
    rw [← hdir, ← hend, ← hwrap]
    rfl

end Sys2Proof.Machine
end

section
/-!
PROOFS. ROUTE_LOAD (R105, R106).
-/
namespace Sys2Proof.Machine

/-! ## A record (R105 step 2) -/

theorem zoneOfCode_eq (n : Nat) :
    zoneOfCode n = if n ≤ 2 then some (if n = 0 then .open_ else if n = 1 then .quiet else .charge) else none := by
  match n with
  | 0 => rfl
  | 1 => rfl
  | 2 => rfl
  | n + 3 => exact (if_neg (by omega)).symm

/-- A byte of a middle piece. -/
theorem byteAt_middle (before l after : List Byte) {i : Nat} (hi : i < l.length) :
    byteAt (before ++ l ++ after) (before.length + i) = byteAt l i := by
  unfold byteAt
  rw [List.append_assoc, List.getD_append_right _ _ _ _ (Nat.le_add_right _ _), Nat.add_sub_cancel_left,
    List.getD_append _ _ _ _ hi]

/-- A record by the conditions on its fields. -/
theorem segmentAt_eq (p : List Byte) (k : Nat) :
    segmentAt p k =
      if byteAt p k / 16 ≤ 1 ∧ byteAt p k % 16 ≤ 2 ∧ (-12 ≤ signed8 (byteAt p (k + 3)) ∧ signed8 (byteAt p (k + 3)) ≤ 12
          ∧ u16At p (k + 4) ≤ 10000) ∧ (byteAt p k / 16 = 0 → 1 ≤ u16At p (k + 1) ∧ u16At p (k + 1) ≤ 4095) then
        some
          { kind := if byteAt p k / 16 = 0 then .run else .hold
            zone := if byteAt p k % 16 = 0 then .open_ else if byteAt p k % 16 = 1 then .quiet else .charge
            len := if byteAt p k / 16 = 0 then u16At p (k + 1) else 0
            grade := signed8 (byteAt p (k + 3)), floor := u16At p (k + 4) }
      else none := by
  unfold segmentAt
  dsimp only
  rw [zoneOfCode_eq]
  by_cases hzone : byteAt p k % 16 ≤ 2
  · by_cases hrange : -12 ≤ signed8 (byteAt p (k + 3)) ∧ signed8 (byteAt p (k + 3)) ≤ 12 ∧ u16At p (k + 4) ≤ 10000
    · simp only [hzone, hrange, and_self, true_and, if_true]
      by_cases hrun : byteAt p k / 16 = 0
      · simp only [hrun, if_true, true_imp_iff, zero_le_one, true_and]
      · by_cases hhold : byteAt p k / 16 = 1
        · simp only [hhold, if_true, if_false, one_ne_zero, false_imp_iff, le_refl, and_self]
        · have hkind : ¬byteAt p k / 16 ≤ 1 := by omega
          simp only [hrun, hhold, hkind, if_false, false_and]
    · simp only [hzone, hrange, false_and, and_false, if_true, if_false]
  · simp only [hzone, false_and, and_false, if_false]

/-! ## The slots (R105, R106) -/

/-- The slots written hold the records, in order. -/
theorem writeSegments_inside {l : List (Option Segment)} (t : Vector (Option Segment) 64) {k i : Nat} (hi : i < l.length)
    (hfit : k + l.length ≤ 64) : (writeSegments t k l)[k + i]? = l[i]? := by
  induction l generalizing t k i with
  | nil => exact absurd hi (Nat.not_lt_zero _)
  | cons x rest ih =>
    rw [List.length_cons] at hi hfit
    rw [writeSegments]
    cases i with
    | zero =>
      rw [writeSegments_outside _ (.inl (by omega))]
      simp [show k < 64 by omega]
    | succ i =>
      have hrest := ih (t.setIfInBounds k x) (k := k + 1) (i := i) (by omega) (by omega)
      rw [List.getElem?_cons_succ, ← hrest]
      congr 1
      omega

/-- A slot in the range of a driven plan. -/
def Rte.inPlan (r : Rte) (k : Nat) : Prop :=
  (r.cursor = .running ∨ r.cursor = .holding) ∧ ∃ q, r.plan = some q ∧ q.first ≤ k ∧ k ≤ q.last

theorem armedSlot_first {r : Rte} {first count k : Nat} (hk : k < count) (hin : r.inPlan (first + k))
    (hbefore : ∀ j < k, ¬r.inPlan (first + j)) : armedSlot r first count = some (first + k) := by
  obtain ⟨hc, q, hq, hlow, hhigh⟩ := hin
  unfold armedSlot
  simp only [hq, (Cursor.inPlan_iff _).mpr hc, if_true]
  exact findSome?_range_first hk (if_pos ⟨hlow, hhigh⟩) fun j hj => if_neg fun hbad => hbefore j hj ⟨hc, q, hq, hbad⟩

theorem armedSlot_of_outside {r : Rte} {first count : Nat} (h : ∀ k < count, ¬r.inPlan (first + k)) :
    armedSlot r first count = none := by
  unfold armedSlot
  cases hq : r.plan with
  | none => rfl
  | some q =>
    by_cases hc : r.cursor.inPlan = true
    · simp only [hc, if_true]
      exact List.findSome?_eq_none_iff.mpr fun k hk =>
        if_neg fun hbad => h k (List.mem_range.mp hk) ⟨(Cursor.inPlan_iff _).mp hc, q, hq, hbad⟩
    · simp only [hc]
      rfl

theorem segmentsOf_length (p : List Byte) (count : Nat) : (segmentsOf p count).length = count := by simp [segmentsOf]

theorem segmentsOf_get (p : List Byte) {count k : Nat} (hk : k < count) :
    (segmentsOf p count)[k]? = some (segmentAt p (2 + 6 * k)) := by simp [segmentsOf, hk]

/-- The first bad record (R105 check 2). -/
theorem segmentsOf_bad {p : List Byte} {count k : Nat} (hk : k < count) (hbad : segmentAt p (2 + 6 * k) = none)
    (hbefore : ∀ j < k, segmentAt p (2 + 6 * j) ≠ none) : (segmentsOf p count).findIdx? Option.isNone = some k := by
  refine List.findIdx?_eq_some_iff_getElem.mpr ⟨by rwa [segmentsOf_length], ?_, fun j hj => ?_⟩
  · simp [segmentsOf, hbad]
  · simp [segmentsOf, hbefore j hj]

theorem segmentsOf_good {p : List Byte} {count : Nat} (h : ∀ k < count, segmentAt p (2 + 6 * k) ≠ none) :
    (segmentsOf p count).findIdx? Option.isNone = none := by
  refine List.findIdx?_eq_none_iff.mpr fun x hx => ?_
  obtain ⟨k, hk, rfl⟩ := List.mem_map.mp hx
  simp [Option.isSome_iff_ne_none, h k (List.mem_range.mp hk)]

/-! ## The request -/

section
variable {s : State} {p : List Byte} {rest : List Frame} (h : Serves s ⟨0x40, p⟩ rest)
  (hlen : p.length = 2 + 6 * byteAt p 1)
include h hlen

theorem exec_routeLoad_serve :
    exec .routeLoad s = .next (execRouteLoad.serve ⟨0x40, p⟩ (s.setLnk { s.lnk with intake := rest })) := by
  refine next_congr (takeRequest_serves h 0x40 noWait execRouteLoad.serve rfl ?_ rfl)
  have hlong : 1 < 2 + 6 * byteAt p 1 := by omega
  simp [lengthOk, requestLength, hlen, hlong]

theorem exec_routeLoad_misplaced (hplace : byteAt p 1 < 1 ∨ 8 < byteAt p 1 ∨ 63 < byteAt p 0 + byteAt p 1 - 1) :
    exec .routeLoad s = .next (s.answered rest (.reply 0x40 .badValue s.mdc.op 0xFFFF)) :=
  (exec_routeLoad_serve h hlen).trans (next_congr (if_pos hplace))

variable (hplace : ¬(byteAt p 1 < 1 ∨ 8 < byteAt p 1 ∨ 63 < byteAt p 0 + byteAt p 1 - 1))
include hplace

theorem exec_routeLoad_badRecord {k : Nat} (hk : (segmentsOf p (byteAt p 1)).findIdx? Option.isNone = some k) :
    exec .routeLoad s = .next (s.answered rest (.reply 0x40 .badValue s.mdc.op (byteAt p 0 + k))) := by
  refine (exec_routeLoad_serve h hlen).trans (next_congr ((if_neg hplace).trans ?_))
  simp only [hk]
  rfl

variable (hgood : (segmentsOf p (byteAt p 1)).findIdx? Option.isNone = none)
include hgood

theorem exec_routeLoad_armed {k : Nat} (hk : armedSlot s.rte (byteAt p 0) (byteAt p 1) = some k) :
    exec .routeLoad s = .next (s.answered rest (.reply 0x40 .refusedState s.mdc.op k)) := by
  refine (exec_routeLoad_serve h hlen).trans (next_congr ((if_neg hplace).trans ?_))
  simp only [hgood, State.setLnk_rte, hk]
  rfl

theorem exec_routeLoad_written (hfree : armedSlot s.rte (byteAt p 0) (byteAt p 1) = none) :
    exec .routeLoad s = .next
      { s.answered rest (.reply 0x40 .done s.mdc.op (byteAt p 1)) with
        rte := { s.rte with table := writeSegments s.rte.table (byteAt p 0) (segmentsOf p (byteAt p 1)) } } := by
  refine (exec_routeLoad_serve h hlen).trans (next_congr ((if_neg hplace).trans ?_))
  simp only [hgood, State.setLnk_rte, hfree]
  rfl

end

/-- Settles O27: a record's fields byte by byte, and the checks of a request in their order. -/
theorem routeLoadServed : Obligations.RouteLoadServed := by
  refine ⟨?_, ?_⟩
  · intro before after kz l1 l0 g f1 f0 kind zone len grade floor
    have hbyte {i : Nat} (hi : i < 6) := byteAt_middle before [kz, l1, l0, g, f1, f0] after hi
    refine (segmentAt_eq _ _).trans ?_
    unfold u16At
    simp only [Nat.add_assoc]
    rw [hbyte (i := 1) (by decide), hbyte (i := 1 + 1) (by decide), hbyte (i := 3) (by decide), hbyte (i := 4) (by decide),
      hbyte (i := 4 + 1) (by decide), show byteAt (before ++ [kz, l1, l0, g, f1, f0] ++ after) before.length = kz.toNat
        from hbyte (i := 0) (by decide)]
    refine if_congr ?_ rfl rfl
    simp only [and_assoc]
    exact Iff.rfl
  · intro s p rest h first count hlen htwo inPlan refuse placed
    have hplaced : ¬(count < 1 ∨ 8 < count ∨ 63 < first + count - 1) ↔ placed := by
      simp only [placed, not_or, Nat.not_lt]
    refine ⟨fun hp => ?_, fun hp k hk hbad hbefore => ?_, fun hp hgood k hk hin hbefore => ?_, fun hp hgood hout => ?_⟩
    · exact exec_routeLoad_misplaced h hlen (Decidable.not_not.mp fun hno => hp (hplaced.mp hno))
    · exact exec_routeLoad_badRecord h hlen (hplaced.mpr hp) (segmentsOf_bad hk hbad hbefore)
    · exact exec_routeLoad_armed h hlen (hplaced.mpr hp) (segmentsOf_good hgood) (armedSlot_first hk hin hbefore)
    · refine ⟨writeSegments s.rte.table first (segmentsOf p count), exec_routeLoad_written h hlen (hplaced.mpr hp)
        (segmentsOf_good hgood) (armedSlot_of_outside hout), fun k hk => ?_, fun k _ hk => ?_⟩
      · obtain ⟨-, -, hlast⟩ := hp
        rw [writeSegments_inside _ (by rwa [segmentsOf_length]) (by rw [segmentsOf_length]; omega), segmentsOf_get _ hk]
      · exact writeSegments_outside _ (by rwa [segmentsOf_length])

end Sys2Proof.Machine
end

section
/-!
PROOFS. The demand timer and the resistor heat model (R10, R45, R46), and a DEMAND in CONFIG and in ACTIVE (R3, R25).
-/
namespace Sys2Proof.Machine

/-! ## The demand timer (R10) -/

theorem exec_demandTimerExpiry {s : State} {e : PartTime} (ht : s.dsp.demandTimer = some e)
    (he : elapsed s.mdc.partTime e < 2147483648) :
    exec .demandTimerExpiry s = .next
      (if s.dsp.permit = .on then
        State.raising
          { s with
            dsp := { s.dsp with demandTimer := none, permit := .waitRelease, tpermit := false, cause := .timeout } }
          .dsp [(.demandTimeout, 0, s.cal.demandTimeout)]
      else { s with dsp := { s.dsp with demandTimer := none } }) := by
  have hexpired : expired s.now s.dsp.demandTimer = true := by
    rw [ht]
    exact decide_eq_true he
  refine next_congr ((if_pos hexpired).trans ?_)
  dsimp only [State.setDsp_dsp]
  cases s.dsp.permit <;> rfl

/-! ## The heat model (R45, R46) -/

theorem heatAfter_eq (c : Cal) (heat : Nat) (x : ResultRecord) :
    heatAfter c heat x = (max 0 (min (c.heatCap : Int) (heat + (x.shares.res - c.resCool) * x.dt))).toNat := by
  unfold heatAfter
  generalize (heat : Int) + (x.shares.res - c.resCool) * x.dt = h
  omega

/-- The comparison with the thresholds, its mark and its event (R46). -/
theorem heatMark_eq (res : Int) (s : State) :
    let hot := s.dsp.hotMark = false ∧ s.cal.heatHot < s.dsp.heat
    let cool := s.dsp.hotMark = true ∧ s.dsp.heat < s.cal.heatCool
    let t := s.setDsp { s.dsp with hotMark := if hot then true else if cool then false else s.dsp.hotMark }
    heatMark res s =
      if hot then t.raising .dsp [(.resistorHot, heatPercent s.cal s.dsp.heat, res.toNat)]
      else if cool then t.raising .dsp [(.resistorCool, heatPercent s.cal s.dsp.heat, res.toNat)]
      else t := by
  intro hot cool t
  unfold heatMark
  dsimp only
  by_cases hhot : hot
  · have ht : t = s.setDsp { s.dsp with hotMark := true } := by simp only [t, if_pos hhot]
    refine (if_pos ?_).trans (Eq.symm ((if_pos hhot).trans ?_))
    · simpa [hot] using hhot
    · rw [ht]; rfl
  refine (if_neg ?_).trans (Eq.symm ((if_neg hhot).trans (Eq.symm ?_)))
  · simpa [hot] using hhot
  by_cases hcool : cool
  · have ht : t = s.setDsp { s.dsp with hotMark := false } := by simp only [t, if_neg hhot, if_pos hcool]
    refine (if_pos ?_).trans (Eq.symm ((if_pos hcool).trans ?_))
    · simpa [cool] using hcool
    · rw [ht]; rfl
  · have ht : t = s := by
      simp only [t, if_neg hhot, if_neg hcool]
      rfl
    refine (if_neg ?_).trans (Eq.symm ((if_neg hcool).trans ht))
    simpa [cool] using hcool

theorem heatTakesNext_cons {s : State} {x : ResultRecord} {rest : List ResultRecord} (h : s.mail.heatIn = x :: rest) :
    heatTakesNext s = heatTakes x (s.setMail { s.mail with heatIn := rest }) := by
  unfold heatTakesNext
  rw [h]

/-- Settles O20: the expiry by the permit it finds, and the heat model by the threshold it crosses. -/
theorem dspEvents : Obligations.DspEvents := by
  refine ⟨fun s e => exec_demandTimerExpiry, ?_⟩
  intro s x rest hmail cap heat hot cool t
  have hheat : heatAfter s.cal s.dsp.heat x = heat := heatAfter_eq _ _ _
  refine next_congr ((heatTakesNext_cons hmail).trans ?_)
  unfold heatTakes
  dsimp only [State.setMail_cal, State.setMail_dsp]
  rw [hheat]
  exact heatMark_eq x.shares.res _

end Sys2Proof.Machine
end

section
/-!
PROOFS. A DEMAND in CONFIG (R25) and in ACTIVE (R3 to R26).
-/
namespace Sys2Proof.Machine

/-! ## What RTE and ENG offer (Tables 4-2 and 5-5, R123, R127) -/

theorem EngState.requestsRun_iff (e : EngState) :
    e.requestsRun = true ↔ e = .cranking ∨ e = .warmup ∨ e = .running ∨ e = .cooldown := by
  cases e <;> decide

theorem EngState.requestsRun_eq (e : EngState) :
    e.requestsRun = decide (e = .cranking ∨ e = .warmup ∨ e = .running ∨ e = .cooldown) := by
  cases e <;> decide

theorem Rte.segment_of_loaded {r : Rte} {k : Nat} {g : Segment} (h : r.table[k]? = some (some g)) : r.segment k = g := by
  unfold Rte.segment
  rw [h]
  rfl

theorem Rte.zone_eq (r : Rte) :
    r.zone = if r.cursor = .running ∨ r.cursor = .holding then (r.segment r.index).zone else .open_ :=
  if_congr (Cursor.inPlan_iff _) rfl rfl

/-! ## A DEMAND served -/

section
variable {s : State} {p : List Byte} {rest : List Frame} (h : Serves s ⟨0x10, p⟩ rest) (hlen : p.length = 19)
  (hheat : s.mail.heatIn = []) (hload : s.mail.loadEndDsp = false)
include h hlen hheat hload

theorem exec_demand_serve :
    exec .demand s = .next (execDemand.serve ⟨0x10, p⟩ (s.setLnk { s.lnk with intake := rest })) := by
  refine next_congr (takeRequest_serves h 0x10 _ execDemand.serve rfl ?_ ?_)
  · simp [lengthOk, requestLength, hlen]
  · simp [hheat, hload]

theorem exec_demand_config (hop : s.mdc.op = .config) :
    exec .demand s = .next (s.answered rest (.dispatch (notActiveMsg s))) := by
  refine (exec_demand_serve h hlen hheat hload).trans (next_congr ?_)
  simp only [execDemand.serve, State.setLnk_mdc, hop]
  rfl

theorem exec_demand_active (hop : s.mdc.op = .active) :
    exec .demand s = .next (dispatch (demandFields p) (s.setLnk { s.lnk with intake := rest })) := by
  refine (exec_demand_serve h hlen hheat hload).trans (next_congr ?_)
  simp only [execDemand.serve, State.setLnk_mdc, hop]

end

/-- Settles O10: what ENG and RTE offer, and the one answer of a DEMAND served in CONFIG. -/
theorem demandNotActive : Obligations.DemandNotActive := by
  refine ⟨EngState.requestsRun_iff, fun c r => ⟨fun hc g hg => ?_, fun hc => ?_, fun l hl => ?_, fun hl => ?_, rfl,
    fun _ => rfl⟩, ?_⟩
  · have hsegment := Rte.segment_of_loaded hg
    exact ⟨by rw [Rte.zone_eq, if_pos hc, hsegment], hsegment⟩
  · rw [Rte.zone_eq, if_neg]
    rcases hc with hc | hc <;> rw [hc] <;> decide
  · rw [Rte.offered, hl]
  · rw [Rte.offered, hl]
    rfl
  · intro s p rest h hlen hop hheat hload runs
    refine (exec_demand_config h hlen hheat hload hop).trans ?_
    rw [notActiveMsg, EngState.requestsRun_eq]
    rfl

/-! ## A dispatch (R3) -/

/-- The permit of a dispatch: a released accelerator re-arms one that waits for it (R9). -/
def Dsp.settled (d : Dsp) (rearmed : Bool) : Dsp :=
  { d with
    permit := if rearmed then .on else d.permit
    tpermit := if rearmed then true else d.tpermit }

/-- The state that a DEMAND is dispatched in: permit settled, demand timer started afresh (R4, R9, R10). -/
def State.demandBegun (s : State) (rearmed : Bool) : State :=
  s.setDsp
    { s.dsp.settled rearmed with
      lastDemand := some s.now, demandTimer := some (after s.now s.cal.demandTimeout) }

theorem demandTaken_eq (x : DemandFields) (s : State) :
    demandTaken x s =
      if s.dsp.permit = .waitRelease ∧ x.a < s.cal.accelDb then
        (s.demandBegun true).raising .dsp [(.permitRestored, s.dsp.cause.code, x.v)]
      else s.demandBegun false := by
  unfold demandTaken settlePermit
  split <;> rfl

/-- Stages 4 to 9 of a dispatch, from the state it is dispatched in. -/
def State.dispatchFrom (s : State) (x : DemandFields) (dt : Nat) : State :=
  let look := envLookup s.cal (s.mdc.straps.mw == 3) x.temp x.soc s.env
  let i := dispatchInput x look.1 look.2.1 s
  let d := decideShares i
  publish (resultRecord x look.1.stress dt d)
    (answer (.dispatch (dispatchMsg s i look.1.stress dt d)) ((s.setEnv look.2.2).setDsp { s.dsp with genPrev := d.genPrev }))

theorem dispatch_from (x : DemandFields) (s : State) :
    dispatch x s = (demandTaken x s).dispatchFrom x (intervalMs s.now s.dsp.lastDemand) := rfl

/-- A dispatch, with PERMIT_RESTORED where the permit is re-armed. -/
theorem dispatch_eq (x : DemandFields) (s : State) :
    dispatch x s =
      if s.dsp.permit = .waitRelease ∧ x.a < s.cal.accelDb then
        ((s.demandBegun true).dispatchFrom x (intervalMs s.now s.dsp.lastDemand)).raising .dsp
          [(.permitRestored, s.dsp.cause.code, x.v)]
      else (s.demandBegun false).dispatchFrom x (intervalMs s.now s.dsp.lastDemand) := by
  rw [dispatch_from, demandTaken_eq]
  split
  · rfl
  · rfl

/-! ## The fields of a DEMAND, and the health factor (Table 1-3, R57) -/

theorem demandFields_eRun (b16 : Byte) : decide (b16.toNat ≠ 0) = decide (b16 ≠ 0) := by
  rw [decide_eq_decide]
  exact not_congr ⟨fun h => BitVec.eq_of_toNat_eq h, fun h => by rw [h]; rfl⟩

theorem ReleaseCause.code_eq (c : ReleaseCause) : c.code = if c = .start then 0 else 1 := by
  cases c <;> rfl

/-- Settles O11: the dispatch from the state with the permit settled, re-armed or not. -/
theorem demandDispatched : Obligations.DemandDispatched := by
  refine ⟨?_, fun c level => ⟨rfl, rfl, rfl, rfl, rfl⟩, ?_⟩
  · intro b0 b1 b2 b3 b4 b5 b6 b7 b8 b9 b10 b11 b12 b13 b14 b15 b16 b17 b18 u
    rw [← demandFields_eRun b16]
    rfl
  · intro s p rest h hlen hop hheat hload x dt rearmed runs zone settled look health i d record msg t
    refine (exec_demand_active h hlen hheat hload hop).trans (next_congr ?_)
    have hsettled (b : Bool) (hb : rearmed ↔ b = true) : settled = s.dsp.settled b := by
      have hpermit : (if rearmed then .on else s.dsp.permit) = if b = true then .on else s.dsp.permit := if_congr hb rfl rfl
      have hline : (if rearmed then true else s.dsp.tpermit) = if b = true then true else s.dsp.tpermit :=
        if_congr hb rfl rfl
      simp only [settled, hpermit, hline]
      rfl
    have hdt : intervalMs s.now s.dsp.lastDemand = dt := by
      simp only [dt]
      cases s.dsp.lastDemand <;> rfl
    have hzone : s.rte.zone = zone := Rte.zone_eq s.rte
    have hruns : s.eng.state.requestsRun = decide runs := EngState.requestsRun_eq _
    have ht (b : Bool) (hb : rearmed ↔ b = true) :
        ((s.setLnk { s.lnk with intake := rest }).demandBegun b).dispatchFrom x (intervalMs s.now s.dsp.lastDemand) = t := by
      have hs := hsettled b hb
      have hmail : { s.mail with
            heatIn := s.mail.heatIn ++ [record], rteIn := s.mail.rteIn ++ [record]
            engIn := s.mail.engIn ++ [record], wruIn := s.mail.wruIn ++ [record] } = t.mail := by
        rw [hheat]
        rfl
      refine Eq.trans ?_ (congrArg (fun m : Mail => { t with mail := m }) hmail)
      clear hsettled hmail
      clear_value settled dt zone
      subst hs hdt hzone
      unfold State.dispatchFrom dispatchInput dispatchMsg
      rw [show ((s.setLnk { s.lnk with intake := rest }).demandBegun b).eng.state.requestsRun = decide runs from hruns]
      rfl
    rw [dispatch_eq]
    by_cases hr : rearmed
    · refine (if_pos hr).trans (Eq.symm ((if_pos hr).trans ?_))
      rw [← ht true (by simp [hr]), ← ReleaseCause.code_eq]
      rfl
    · refine (if_neg hr).trans (Eq.symm ((if_neg hr).trans ?_))
      exact (ht false (by simp [hr])).symm

end Sys2Proof.Machine
end

section
/-!
PROOFS. MDC's own answers, and when it takes no frame or a frame waits (R156, R173, R175).
-/
namespace Sys2Proof.Machine

/-! ## Requests as frames taken -/

/-- Every request command is the taking of a frame. -/
theorem exec_request_takes {i : Instr} (hi : isRequest i = true) (s : State) :
    ∃ sel ready serve, exec i s = .next (takeFrame sel ready serve s) := by
  cases i <;> first | exact absurd hi Bool.false_ne_true | exact ⟨_, _, _, rfl⟩

/-- With no frame to take nothing changes. -/
theorem takeFrame_empty {s : State} (h : s.lnk.intake = []) (sel : Frame → Bool) (ready : Frame → State → Bool)
    (serve : Frame → State → State) : takeFrame sel ready serve s = s := by
  unfold takeFrame
  rw [h]

/-- Where MDC takes no frame, a request command changes nothing (R156). -/
theorem exec_request_stays {i : Instr} (hi : isRequest i = true) {s : State}
    (h : s.mdc.op = .loading ∨ s.mdc.restartPending = true ∨ 4 ≤ s.lnk.replies.length ∨ s.lnk.intake = []) :
    exec i s = .next s := by
  obtain ⟨sel, ready, serve, he⟩ := exec_request_takes hi s
  rw [he]
  rcases h with hop | hrestart | hfull | hempty
  · rw [takeFrame_stays (by simp [mayTake, hop])]
  · rw [takeFrame_stays (by simp [mayTake, hrestart])]
  · rw [takeFrame_stays (by simp [mayTake, Config.replyDepth, Nat.not_lt.mpr hfull])]
  · rw [takeFrame_empty hempty]

section
variable {s : State} {f : Frame} {rest : List Frame} (h : Serves s f rest)
include h

/-- A frame that is selected and has a wrong length is answered by MDC (R173). -/
theorem takeFrame_badLength {sel : Frame → Bool} {ready : Frame → State → Bool} (serve : Frame → State → State)
    (hsel : sel f = true) (hready : ready f s = true) (hl : lengthOk f = false) :
    takeFrame sel ready (serveChecked serve) s
      = s.answered rest (.reply f.type .badLength s.mdc.op f.payload.length) := by
  rw [takeFrame_serves h _ _ _ hsel hready, serveChecked, hl]
  rfl

/-- A frame waits where what it must wait for has not happened (log entry 22). -/
theorem takeFrame_waits {sel : Frame → Bool} {ready : Frame → State → Bool} (serve : Frame → State → State)
    (hready : ready f s = false) : takeFrame sel ready serve s = s := by
  simp [takeFrame, h.intake, hready]

end

/-! ## Lengths (Table 9-1) -/

theorem lengthOk_iff {f : Frame} {n : Nat} (h : requestLength f = some n) : lengthOk f = true ↔ f.payload.length = n := by
  rw [lengthOk, h, beq_iff_eq, Option.some.injEq, eq_comm]

theorem lengthOk_routeLoad (p : List Byte) :
    lengthOk ⟨0x40, p⟩ = true ↔ ∃ first count tail, p = first :: count :: tail ∧ tail.length = 6 * count.toNat := by
  match p with
  | [] => exact iff_of_false (by decide) (by simp)
  | [b] => exact iff_of_false (fun h => Bool.false_ne_true h) (by simp)
  | first :: count :: tail =>
    have hlength : requestLength ⟨0x40, first :: count :: tail⟩ = some (2 + 6 * count.toNat) := by
      simp [requestLength, byteAt]
    rw [lengthOk_iff hlength]
    simp only [List.length_cons, List.cons.injEq]
    constructor
    · intro h
      exact ⟨first, count, tail, ⟨rfl, rfl, rfl⟩, by omega⟩
    · rintro ⟨_, _, _, ⟨rfl, rfl, rfl⟩, h⟩
      omega

theorem knownType_iff (t : Byte) :
    knownType t = true ↔
      t ∈ [0x10#8, 0x20, 0x21, 0x22, 0x23, 0x30, 0x31, 0x40, 0x41, 0x42, 0x43, 0x44, 0x50, 0x60, 0x61, 0x70] := by
  revert t
  decide +kernel

/-! ## MDC's answers (R173, R175) -/

section
variable {s : State} {type : Byte} {p : List Byte} {rest : List Frame} (h : Serves s ⟨type, p⟩ rest)
  (hl : lengthOk ⟨type, p⟩ = false)
include h hl

/-- A QUERY of wrong length is answered by MDC (R173). -/
theorem takeQuery_badLength (topic : Nat) (ready : Frame → State → Bool) (before : State → State)
    (content : State → List Byte) (hsel : isTopic topic ⟨type, p⟩ = true) :
    takeQuery topic ready before content s = s.answered rest (.reply type .badLength s.mdc.op p.length) :=
  takeFrame_badLength h _ hsel (by simp [readyChecked, hl]) hl

theorem exec_queryUnknownTopic_badLength (hsel : isUnknownTopic ⟨type, p⟩ = true) :
    exec .queryUnknownTopic s = .next (s.answered rest (.reply type .badLength s.mdc.op p.length)) :=
  next_congr (takeFrame_badLength h _ hsel rfl hl)

end

theorem isTopic_of_head {p : List Byte} {b : Byte} (h : p.head? = some b) : isTopic b.toNat ⟨0x70, p⟩ = true := by
  cases p with
  | nil => cases h
  | cons c tail =>
    cases h
    simp [isTopic, byteAt]

theorem isUnknownTopic_of_head {p : List Byte} {b : Byte} (h : p.head? = some b) (hb : 7 < b.toNat) :
    isUnknownTopic ⟨0x70, p⟩ = true := by
  cases p with
  | nil => cases h
  | cons c tail =>
    cases h
    simp [isUnknownTopic, byteAt, hb]

/-- Settles O52: every request command is the taking of a frame, which asks first whether and what to take. -/
theorem mdcAnswers : Obligations.MdcAnswers := by
  refine ⟨fun s type p rest h => ⟨fun hunknown => ?_, fun hl => ?_⟩,
    fun type p => ⟨knownType_iff type, ?_, lengthOk_routeLoad p⟩, fun s hstays i hi => ?_, fun s f rest h hl => ?_⟩
  · exact next_congr (takeFrame_serves h _ noWait _ (by simp [hunknown]) rfl)
  · intro answered
    have hrequest {t : Byte} {ready : Frame → State → Bool} {serve : Frame → State → State} (ht : type = t) :=
      takeRequest_badLength h t ready serve ht hl
    refine ⟨?_, fun hquery => ?_⟩
    · simp only [List.forall_mem_cons, List.not_mem_nil, false_implies, implies_true, and_true]
      refine ⟨?_, ?_, ?_, ?_, ?_, ?_, ?_, ?_, ?_, ?_, ?_, ?_, ?_, ?_, ?_⟩
      all_goals exact fun ht => next_congr (hrequest ht)
    subst hquery
    refine ⟨?_, fun hp => ?_, fun b hb habove => ?_⟩
    · simp only [List.forall_mem_cons, List.not_mem_nil, false_implies, implies_true, and_true]
      refine ⟨?_, ?_, ?_, ?_, ?_, ?_, ?_, ?_⟩
      all_goals exact fun hb => next_congr (takeQuery_badLength h hl _ _ _ _ (isTopic_of_head hb))
    · subst hp
      exact exec_queryUnknownTopic_badLength h hl rfl
    · exact exec_queryUnknownTopic_badLength h hl (isUnknownTopic_of_head hb habove)
  · simp only [List.forall_mem_cons, List.not_mem_nil, false_implies, implies_true, and_true]
    refine ⟨?_, ?_, ?_, ?_, ?_, ?_, ?_, ?_, ?_, ?_, ?_, ?_, ?_, ?_, ?_⟩
    all_goals exact lengthOk_iff rfl
  · have hrequest : ∀ i ∈ [Instr.demand, .start, .halt, .restart, .faultClear, .calWrite, .calRead, .routeLoad, .routeArm,
        .routeDepart, .routeSync, .routeClear, .mapFlush, .wearSeed, .wearService, .queryStatus, .queryWearA, .queryWearB,
        .queryPredict, .queryRoute, .queryStartsA, .queryStartsB, .queryMap, .queryUnknownTopic, .unknownType],
        isRequest i = true := by
      simp only [List.forall_mem_cons, List.not_mem_nil, false_implies, implies_true, isRequest, and_self]
    exact exec_request_stays (hrequest i hi) hstays
  · intro waits
    have hwaits {sel : Frame → Bool} {ready : Frame → State → Bool} {serve : Frame → State → State}
        (hready : ready f s = false) : takeFrame sel (readyChecked ready) serve s = s :=
      takeFrame_waits h serve (by simp [readyChecked, hl, hready])
    refine ⟨fun hd => ?_, fun hop hok hd => ?_, fun hop hd => ?_, fun hop hid hd => ?_, fun hop hid hd => ?_,
      fun hop hid hd => ?_, fun hop hlow hhigh hd => ?_, fun hd => ⟨?_, ?_, ?_, ?_, ?_, ?_⟩, fun hd => ?_⟩
    · refine next_congr (hwaits ?_)
      rcases hd with hd | hd <;> simp [hd]
    · refine next_congr (hwaits ?_)
      rcases hd with hd | hd <;> simp [execStart.ready, hop, hok, hd]
    · refine next_congr (hwaits ?_)
      rcases hd with hd | hd <;> simp [execHalt.ready, hop, hd]
    · refine next_congr (hwaits ?_)
      rcases hid with hid | hid <;> simp [execCalWrite.ready, hop, hid, hd]
    · exact next_congr (hwaits (by simp [execCalWrite.ready, hop, hid, hd]))
    · exact next_congr (hwaits (by simp [execCalWrite.ready, hop, hid, hd]))
    · exact next_congr (hwaits (by simp [execCalWrite.ready, hop, hlow, hhigh, hd]))
    all_goals exact next_congr (hwaits (by simp [wruLoaded, hd]))

end Sys2Proof.Machine
end

section
/-!
PROOFS. The queries, and the bytes of every answer, report and event record (R174 to R179).
-/
namespace Sys2Proof.Machine

/-! ## A QUERY served (R177) -/

section
variable {s : State} {b : Byte} {rest : List Frame} (h : Serves s ⟨0x70, [b]⟩ rest)
include h

theorem takeQuery_serves {topic : Nat} {ready : Frame → State → Bool} {before : State → State} {content : State → List Byte}
    (htopic : b.toNat = topic) (hready : ready ⟨0x70, [b]⟩ s = true) :
    takeQuery topic ready before content s =
      answer (.report 0x70 (byte topic) (content (before (s.setLnk { s.lnk with intake := rest }))))
        (before (s.setLnk { s.lnk with intake := rest })) := by
  have hlength : lengthOk ⟨0x70, [b]⟩ = true := rfl
  rw [takeQuery, takeFrame_serves h, serveChecked, if_pos hlength]
  · simp [isTopic, byteAt, htopic]
  · rw [readyChecked, hready]
    exact Bool.or_true _

theorem exec_queryUnknownTopic_serves (hb : 7 < b.toNat) :
    exec .queryUnknownTopic s = .next (s.answered rest (.reply 0x70 .badValue s.mdc.op b.toNat)) := by
  refine next_congr ((takeFrame_serves h isUnknownTopic noWait _ ?_ rfl).trans rfl)
  simp [isUnknownTopic, byteAt, hb]

end

/-! ## Marks and lists -/

/-- A mark at its place in a flag word (R176, R178). -/
theorem scaled_bit (n : Nat) (b : Bool) : n * bit b = if b = true then n else 0 := by
  cases b <;> simp [bit]

theorem DispatchFlags.word_eq (f : DispatchFlags) :
    f.word = (if f.tractionLimited = true then 1 else 0) + (if f.regenLimited = true then 2 else 0)
      + (if f.auxOverload = true then 4 else 0) + (if f.envelopeHeld = true then 8 else 0)
      + (if f.envelopeFallback = true then 16 else 0) + (if f.pedalConflict = true then 32 else 0)
      + (if f.regenFaded = true then 64 else 0) + (if f.resistorDerated = true then 128 else 0)
      + (if f.permitWait = true then 256 else 0) + (if f.quietZone = true then 512 else 0) := by
  simp only [DispatchFlags.word, scaled_bit]
  rfl

/-- The payload of a DISPATCH with its flag word written out (Table 9-6). -/
theorem DispatchMsg.body_eq (d : DispatchMsg) :
    d.body =
      [byte d.mode.code]
        ++ be16 ((if d.flags.tractionLimited = true then 1 else 0) + (if d.flags.regenLimited = true then 2 else 0)
          + (if d.flags.auxOverload = true then 4 else 0) + (if d.flags.envelopeHeld = true then 8 else 0)
          + (if d.flags.envelopeFallback = true then 16 else 0) + (if d.flags.pedalConflict = true then 32 else 0)
          + (if d.flags.regenFaded = true then 64 else 0) + (if d.flags.resistorDerated = true then 128 else 0)
          + (if d.flags.permitWait = true then 256 else 0) + (if d.flags.quietZone = true then 512 else 0))
        ++ [byte d.permit.code] ++ [byte (if d.engineRun = true then 1 else 0)]
        ++ be16s d.shares.mot ++ be16s d.shares.gen ++ be16s d.shares.batt ++ be16s d.shares.res ++ be16s d.shares.fric
        ++ be16s d.shares.axle1 ++ be16s d.shares.axle2 ++ be16s d.shares.axle3
        ++ be16 d.disEff ++ be16 d.chgEff ++ be16 d.w ++ be16 d.socTarget ++ [byte d.zone.code] ++ be16 d.qd
        ++ [byte d.dt] := by
  rw [DispatchMsg.body, DispatchFlags.word_eq]
  rfl

section
variable {α : Type} (f : Nat → List α)

theorem flatMap_range_four : (List.range 4).flatMap f = f 0 ++ f 1 ++ f 2 ++ f 3 := by
  simp [List.range, List.range.loop]

theorem flatMap_range_six : (List.range 6).flatMap f = f 0 ++ f 1 ++ f 2 ++ f 3 ++ f 4 ++ f 5 := by
  simp [List.range, List.range.loop]

theorem flatMap_range_eight :
    (List.range 8).flatMap f = f 0 ++ f 1 ++ f 2 ++ f 3 ++ f 4 ++ f 5 ++ f 6 ++ f 7 := by
  simp [List.range, List.range.loop]

end

theorem quietField_eq (qd : Option Nat) :
    quietField qd = match qd with | none => 65535 | some mm => min 65534 (mm / 1000) := by
  cases qd <;> rfl

theorem startsReport_eq (first : Nat) (s : State) :
    startsReport first s =
      [byte s.eng.starts.length] ++ [byte s.cal.startBudget] ++ [byte (if s.eng.budgetMark = true then 1 else 0)]
        ++ startReport s.eng.starts[first]? ++ startReport s.eng.starts[first + 1]? ++ startReport s.eng.starts[first + 2]?
        ++ startReport s.eng.starts[first + 3]? ++ startReport s.eng.starts[first + 4]?
        ++ startReport s.eng.starts[first + 5]? := by
  rw [startsReport, flatMap_range_six]
  simp only [List.append_assoc]
  rfl

theorem mapReport_eq (s : State) :
    mapReport s =
      [byte s.env.port.code] ++ be16 ((s.env.pendingKey.map fun k => k.i * 256 + k.j).getD 65535)
        ++ entryReport s.env 0 ++ entryReport s.env 1 ++ entryReport s.env 2 ++ entryReport s.env 3
        ++ entryReport s.env 4 ++ entryReport s.env 5 ++ entryReport s.env 6 ++ entryReport s.env 7 := by
  unfold mapReport
  rw [flatMap_range_eight]
  simp only [List.append_assoc]
  cases s.env.pendingKey <;> rfl

/-! ## Lengths (Tables 9-6 and 9-7) -/

theorem startReport_length (e : Option StartEntry) : (startReport e).length = 5 := by
  cases e <;> rfl

theorem entryReport_length (e : Env) (n : Nat) : (entryReport e n).length = 5 := by
  unfold entryReport
  dsimp only
  cases (e.entry n).key <;> rfl

theorem planReport_length (p : Option Plan) : (planReport p).length = 8 := by
  cases p <;> rfl

theorem DispatchMsg.body_length (d : DispatchMsg) : d.body.length = 33 := by
  simp [DispatchMsg.body, be16, be16s]

theorem statusReport_length (s : State) : (statusReport s).length = 17 := rfl

theorem wearReport_length (first : Nat) (s : State) : (wearReport first s).length = 24 := by
  rw [wearReport, flatMap_range_four]
  rfl

theorem predictReport_length (s : State) : (predictReport s).length = 22 := by
  rw [predictReport, flatMap_range_four]
  rfl

theorem routeReport_length (s : State) : (routeReport s).length = 30 := by
  simp [routeReport, planReport_length, be16, be32]

theorem startsReport_length (first : Nat) (s : State) : (startsReport first s).length = 33 := by
  simp [startsReport, flatMap_range_six, startReport_length]

theorem mapReport_length (s : State) : (mapReport s).length = 43 := by
  simp [mapReport, flatMap_range_eight, entryReport_length, be16]

/-- Settles O51: each topic's QUERY served, each payload with its flags and lists written out, and the lengths. -/
theorem queriesAnswered : Obligations.QueriesAnswered := by
  refine ⟨fun s b rest h => ?_, ?_, fun type payload d e st op n v s => ⟨by simp [frameBytes, be16], d.body_length, rfl, rfl,
    statusReport_length s, wearReport_length 0 s, wearReport_length 4 s, predictReport_length s, routeReport_length s,
    startsReport_length 0 s, startsReport_length 6 s, mapReport_length s⟩⟩
  · intro report pruned
    refine ⟨fun hb hdsp hwru => ?_, fun hb hwru => ?_, fun hb hwru => ?_, fun hb hwru => ?_, fun hb => ?_, fun hb => ?_,
      fun hb => ?_, fun hb => ?_, exec_queryUnknownTopic_serves h⟩
    all_goals subst hb
    · exact next_congr (takeQuery_serves h rfl (by simp [wruLoaded, hdsp, hwru]))
    · exact next_congr (takeQuery_serves h rfl (by simp [wruLoaded, hwru]))
    · exact next_congr (takeQuery_serves h rfl (by simp [wruLoaded, hwru]))
    · exact next_congr (takeQuery_serves h rfl (by simp [wruLoaded, hwru]))
    all_goals exact next_congr (takeQuery_serves h rfl rfl)
  · intro d e i st op n content v s u8 u16 u32 s16 on opCode permitCode zoneCode cursorCode dirCode levelCode counter
      predicted start starts cached offered
    have hstart (k : Nat) : startReport s.eng.starts[k]? = start k := by
      simp only [start]
      cases s.eng.starts[k]? <;> rfl
    have hcached (k : Nat) : entryReport s.env k = cached k := by
      simp only [cached, entryReport, scaled_bit]
      cases (s.env.entry k).key <;> rfl
    refine ⟨rfl, rfl, rfl, ?_, rfl, rfl, rfl, ?_, ?_, ?_, ?_, ?_, ?_, ?_, ?_⟩
    · exact DispatchMsg.body_eq d
    · rw [statusReport, strapsByte, scaled_bit]
      rfl
    · exact flatMap_range_four _
    · exact flatMap_range_four _
    · rw [predictReport, flatMap_range_four]
      rfl
    · have hoffered : s.rte.offered s.cal = offered := by
        simp only [offered]
        unfold Rte.offered
        cases s.rte.look <;> rfl
      unfold routeReport
      rw [hoffered]
      dsimp only
      rw [quietField_eq]
      cases s.rte.plan <;> rfl
    · simp only [startsReport_eq, hstart]
      rfl
    · simp only [startsReport_eq, hstart]
      rfl
    · rw [mapReport_eq, hcached 0, hcached 1, hcached 2, hcached 3, hcached 4, hcached 5, hcached 6, hcached 7]
      cases s.env.pendingKey <;> rfl

end Sys2Proof.Machine
end
